-- ==== Sys2Proof/Word.lean ====
section
/-! DEFINITION. The word and address types. Bits are weight positions: bit `p` of a word is the one of weight `2^p`
(00_scope.md R6); the document's index `k` is `15 - p`. -/

namespace Sys2Proof

/-- A data word, an instruction word, a register: 16 bits (00_scope.md R5, R9). Its unsigned value is `toNat`, its
two's-complement value `toInt` (R7). -/
abbrev Word := BitVec 16

/-- An address of one of the two memories, and the value of an address instruction: 15 bits (00_scope.md R5). -/
abbrev Addr := BitVec 15

end Sys2Proof
end

