-- ==== Sys2Proof/Syntax.lean ====
section
/-! DEFINITION. The instruction set as data: the dest and jump fields of a compute instruction and the one
inductive Instr, one constructor per row of spec/opcode_table.json (129 rows: the address row and the 128 values of
the comp field). Rules: 30_encoding.md R62, R63, R67. -/

namespace Sys2Proof

/-- The dest field `ins[5:3] = dA dD dM` (30_encoding.md R62): three independent flags, for the A register, the D
register and the memory word. -/
structure Dest where
  dA : Bool
  dD : Bool
  dM : Bool
deriving DecidableEq, Repr

/-- The jump field `ins[2:0] = jN jZ jP` (30_encoding.md R62): jump if the ALU output is negative, zero, positive. -/
structure Jump where
  jN : Bool
  jZ : Bool
  jP : Bool
deriving DecidableEq, Repr

/-! The eight dests by their mnemonics (43_compute_instruction.md R180 to R187). -/

/-- Dest `000`, R180. -/
abbrev Dest.none : Dest := ⟨false, false, false⟩
/-- Dest `001`, `M`, R181. -/
abbrev Dest.m : Dest := ⟨false, false, true⟩
/-- Dest `010`, `D`, R182. -/
abbrev Dest.d : Dest := ⟨false, true, false⟩
/-- Dest `011`, `MD`, R183. -/
abbrev Dest.md : Dest := ⟨false, true, true⟩
/-- Dest `100`, `A`, R184. -/
abbrev Dest.a : Dest := ⟨true, false, false⟩
/-- Dest `101`, `AM`, R185. -/
abbrev Dest.am : Dest := ⟨true, false, true⟩
/-- Dest `110`, `AD`, R186. -/
abbrev Dest.ad : Dest := ⟨true, true, false⟩
/-- Dest `111`, `AMD`, R187. -/
abbrev Dest.amd : Dest := ⟨true, true, true⟩

/-! The eight jumps by their mnemonics (43_compute_instruction.md R190 to R197). -/

/-- Jump `000`, R190: never. -/
abbrev Jump.none : Jump := ⟨false, false, false⟩
/-- Jump `001`, `JGT`, R191. -/
abbrev Jump.jgt : Jump := ⟨false, false, true⟩
/-- Jump `010`, `JEQ`, R192. -/
abbrev Jump.jeq : Jump := ⟨false, true, false⟩
/-- Jump `011`, `JGE`, R193. -/
abbrev Jump.jge : Jump := ⟨false, true, true⟩
/-- Jump `100`, `JLT`, R194. -/
abbrev Jump.jlt : Jump := ⟨true, false, false⟩
/-- Jump `101`, `JNE`, R195. -/
abbrev Jump.jne : Jump := ⟨true, false, true⟩
/-- Jump `110`, `JLE`, R196. -/
abbrev Jump.jle : Jump := ⟨true, true, false⟩
/-- Jump `111`, `JMP`, R197: always. -/
abbrev Jump.jmp : Jump := ⟨true, true, true⟩

/-- One constructor per row of spec/opcode_table.json. The reserved bits `ins[14:13]` of a compute word are no part of
the instruction: no rule reads them (30_encoding.md R65, notes/assumptions/12.md). -/
inductive Instr where
  /-- `@value` (R150): load the 15-bit value into A. -/
  | atValue (v : Addr)
  /-- `0` (R100): comp `0101010`, out = `0`. -/
  | zero (d : Dest) (j : Jump)
  /-- `1` (R101): comp `0111111`, out = `1`. -/
  | one (d : Dest) (j : Jump)
  /-- `-1` (R102): comp `0111010`, out = `-1`. -/
  | negOne (d : Dest) (j : Jump)
  /-- `D` (R103): comp `0001100`, out = `D`. -/
  | compD (d : Dest) (j : Jump)
  /-- `A` (R104): comp `0110000`, out = `A`. -/
  | compA (d : Dest) (j : Jump)
  /-- `M` (R105): comp `1110000`, out = `M`. -/
  | compM (d : Dest) (j : Jump)
  /-- `!D` (R106): comp `0001101`, out = `~D`. -/
  | notD (d : Dest) (j : Jump)
  /-- `!A` (R107): comp `0110001`, out = `~A`. -/
  | notA (d : Dest) (j : Jump)
  /-- `!M` (R108): comp `1110001`, out = `~M`. -/
  | notM (d : Dest) (j : Jump)
  /-- `-D` (R109): comp `0001111`, out = `-D`. -/
  | negD (d : Dest) (j : Jump)
  /-- `-A` (R110): comp `0110011`, out = `-A`. -/
  | negA (d : Dest) (j : Jump)
  /-- `-M` (R111): comp `1110011`, out = `-M`. -/
  | negM (d : Dest) (j : Jump)
  /-- `D+1` (R112): comp `0011111`, out = `D+1`. -/
  | dPlusOne (d : Dest) (j : Jump)
  /-- `A+1` (R113): comp `0110111`, out = `A+1`. -/
  | aPlusOne (d : Dest) (j : Jump)
  /-- `M+1` (R114): comp `1110111`, out = `M+1`. -/
  | mPlusOne (d : Dest) (j : Jump)
  /-- `D-1` (R115): comp `0001110`, out = `D-1`. -/
  | dMinusOne (d : Dest) (j : Jump)
  /-- `A-1` (R116): comp `0110010`, out = `A-1`. -/
  | aMinusOne (d : Dest) (j : Jump)
  /-- `M-1` (R117): comp `1110010`, out = `M-1`. -/
  | mMinusOne (d : Dest) (j : Jump)
  /-- `D+A` (R118): comp `0000010`, out = `D+A`. -/
  | dPlusA (d : Dest) (j : Jump)
  /-- `D+M` (R119): comp `1000010`, out = `D+M`. -/
  | dPlusM (d : Dest) (j : Jump)
  /-- `D-A` (R120): comp `0010011`, out = `D-A`. -/
  | dMinusA (d : Dest) (j : Jump)
  /-- `D-M` (R121): comp `1010011`, out = `D-M`. -/
  | dMinusM (d : Dest) (j : Jump)
  /-- `A-D` (R122): comp `0000111`, out = `A-D`. -/
  | aMinusD (d : Dest) (j : Jump)
  /-- `M-D` (R123): comp `1000111`, out = `M-D`. -/
  | mMinusD (d : Dest) (j : Jump)
  /-- `D&A` (R124): comp `0000000`, out = `D&A`. -/
  | dAndA (d : Dest) (j : Jump)
  /-- `D&M` (R125): comp `1000000`, out = `D&M`. -/
  | dAndM (d : Dest) (j : Jump)
  /-- `D|A` (R126): comp `0010101`, out = `D|A`. -/
  | dOrA (d : Dest) (j : Jump)
  /-- `D|M` (R127): comp `1010101`, out = `D|M`. -/
  | dOrM (d : Dest) (j : Jump)
  /-- `comp#0000001` (R129): comp `0000001`, out = `~D|~A`. -/
  | comp0000001 (d : Dest) (j : Jump)
  /-- `comp#0000011` (R129): comp `0000011`, out = `-D-A-1`. -/
  | comp0000011 (d : Dest) (j : Jump)
  /-- `comp#0000100` (R129): comp `0000100`, out = `D&~A`. -/
  | comp0000100 (d : Dest) (j : Jump)
  /-- `comp#0000101` (R129): comp `0000101`, out = `~D|A`. -/
  | comp0000101 (d : Dest) (j : Jump)
  /-- `comp#0000110` (R129): comp `0000110`, out = `D-A-1`. -/
  | comp0000110 (d : Dest) (j : Jump)
  /-- `comp#0001000` (R129): comp `0001000`, out = `0`. -/
  | comp0001000 (d : Dest) (j : Jump)
  /-- `comp#0001001` (R129): comp `0001001`, out = `-1`. -/
  | comp0001001 (d : Dest) (j : Jump)
  /-- `comp#0001010` (R129): comp `0001010`, out = `D`. -/
  | comp0001010 (d : Dest) (j : Jump)
  /-- `comp#0001011` (R129): comp `0001011`, out = `-D-1`. -/
  | comp0001011 (d : Dest) (j : Jump)
  /-- `comp#0010000` (R129): comp `0010000`, out = `~D&A`. -/
  | comp0010000 (d : Dest) (j : Jump)
  /-- `comp#0010001` (R129): comp `0010001`, out = `D|~A`. -/
  | comp0010001 (d : Dest) (j : Jump)
  /-- `comp#0010010` (R129): comp `0010010`, out = `A-D-1`. -/
  | comp0010010 (d : Dest) (j : Jump)
  /-- `comp#0010100` (R129): comp `0010100`, out = `~D&~A`. -/
  | comp0010100 (d : Dest) (j : Jump)
  /-- `comp#0010110` (R129): comp `0010110`, out = `-D-A-2`. -/
  | comp0010110 (d : Dest) (j : Jump)
  /-- `comp#0010111` (R129): comp `0010111`, out = `D+A+1`. -/
  | comp0010111 (d : Dest) (j : Jump)
  /-- `comp#0011000` (R129): comp `0011000`, out = `0`. -/
  | comp0011000 (d : Dest) (j : Jump)
  /-- `comp#0011001` (R129): comp `0011001`, out = `-1`. -/
  | comp0011001 (d : Dest) (j : Jump)
  /-- `comp#0011010` (R129): comp `0011010`, out = `-D-1`. -/
  | comp0011010 (d : Dest) (j : Jump)
  /-- `comp#0011011` (R129): comp `0011011`, out = `D`. -/
  | comp0011011 (d : Dest) (j : Jump)
  /-- `comp#0011100` (R129): comp `0011100`, out = `~D`. -/
  | comp0011100 (d : Dest) (j : Jump)
  /-- `comp#0011101` (R129): comp `0011101`, out = `D`. -/
  | comp0011101 (d : Dest) (j : Jump)
  /-- `comp#0011110` (R129): comp `0011110`, out = `-D-2`. -/
  | comp0011110 (d : Dest) (j : Jump)
  /-- `comp#0100000` (R129): comp `0100000`, out = `0`. -/
  | comp0100000 (d : Dest) (j : Jump)
  /-- `comp#0100001` (R129): comp `0100001`, out = `-1`. -/
  | comp0100001 (d : Dest) (j : Jump)
  /-- `comp#0100010` (R129): comp `0100010`, out = `A`. -/
  | comp0100010 (d : Dest) (j : Jump)
  /-- `comp#0100011` (R129): comp `0100011`, out = `-A-1`. -/
  | comp0100011 (d : Dest) (j : Jump)
  /-- `comp#0100100` (R129): comp `0100100`, out = `0`. -/
  | comp0100100 (d : Dest) (j : Jump)
  /-- `comp#0100101` (R129): comp `0100101`, out = `-1`. -/
  | comp0100101 (d : Dest) (j : Jump)
  /-- `comp#0100110` (R129): comp `0100110`, out = `-A-1`. -/
  | comp0100110 (d : Dest) (j : Jump)
  /-- `comp#0100111` (R129): comp `0100111`, out = `A`. -/
  | comp0100111 (d : Dest) (j : Jump)
  /-- `comp#0101000` (R129): comp `0101000`, out = `0`. -/
  | comp0101000 (d : Dest) (j : Jump)
  /-- `comp#0101001` (R129): comp `0101001`, out = `-1`. -/
  | comp0101001 (d : Dest) (j : Jump)
  /-- `comp#0101011` (R129): comp `0101011`, out = `-1`. -/
  | comp0101011 (d : Dest) (j : Jump)
  /-- `comp#0101100` (R129): comp `0101100`, out = `0`. -/
  | comp0101100 (d : Dest) (j : Jump)
  /-- `comp#0101101` (R129): comp `0101101`, out = `-1`. -/
  | comp0101101 (d : Dest) (j : Jump)
  /-- `comp#0101110` (R129): comp `0101110`, out = `-1`. -/
  | comp0101110 (d : Dest) (j : Jump)
  /-- `comp#0101111` (R129): comp `0101111`, out = `0`. -/
  | comp0101111 (d : Dest) (j : Jump)
  /-- `comp#0110100` (R129): comp `0110100`, out = `~A`. -/
  | comp0110100 (d : Dest) (j : Jump)
  /-- `comp#0110101` (R129): comp `0110101`, out = `A`. -/
  | comp0110101 (d : Dest) (j : Jump)
  /-- `comp#0110110` (R129): comp `0110110`, out = `-A-2`. -/
  | comp0110110 (d : Dest) (j : Jump)
  /-- `comp#0111000` (R129): comp `0111000`, out = `0`. -/
  | comp0111000 (d : Dest) (j : Jump)
  /-- `comp#0111001` (R129): comp `0111001`, out = `-1`. -/
  | comp0111001 (d : Dest) (j : Jump)
  /-- `comp#0111011` (R129): comp `0111011`, out = `0`. -/
  | comp0111011 (d : Dest) (j : Jump)
  /-- `comp#0111100` (R129): comp `0111100`, out = `-1`. -/
  | comp0111100 (d : Dest) (j : Jump)
  /-- `comp#0111101` (R129): comp `0111101`, out = `0`. -/
  | comp0111101 (d : Dest) (j : Jump)
  /-- `comp#0111110` (R129): comp `0111110`, out = `-2`. -/
  | comp0111110 (d : Dest) (j : Jump)
  /-- `comp#1000001` (R129): comp `1000001`, out = `~D|~M`. -/
  | comp1000001 (d : Dest) (j : Jump)
  /-- `comp#1000011` (R129): comp `1000011`, out = `-D-M-1`. -/
  | comp1000011 (d : Dest) (j : Jump)
  /-- `comp#1000100` (R129): comp `1000100`, out = `D&~M`. -/
  | comp1000100 (d : Dest) (j : Jump)
  /-- `comp#1000101` (R129): comp `1000101`, out = `~D|M`. -/
  | comp1000101 (d : Dest) (j : Jump)
  /-- `comp#1000110` (R129): comp `1000110`, out = `D-M-1`. -/
  | comp1000110 (d : Dest) (j : Jump)
  /-- `comp#1001000` (R129): comp `1001000`, out = `0`. -/
  | comp1001000 (d : Dest) (j : Jump)
  /-- `comp#1001001` (R129): comp `1001001`, out = `-1`. -/
  | comp1001001 (d : Dest) (j : Jump)
  /-- `comp#1001010` (R129): comp `1001010`, out = `D`. -/
  | comp1001010 (d : Dest) (j : Jump)
  /-- `comp#1001011` (R129): comp `1001011`, out = `-D-1`. -/
  | comp1001011 (d : Dest) (j : Jump)
  /-- `comp#1001100` (R129): comp `1001100`, out = `D`. -/
  | comp1001100 (d : Dest) (j : Jump)
  /-- `comp#1001101` (R129): comp `1001101`, out = `~D`. -/
  | comp1001101 (d : Dest) (j : Jump)
  /-- `comp#1001110` (R129): comp `1001110`, out = `D-1`. -/
  | comp1001110 (d : Dest) (j : Jump)
  /-- `comp#1001111` (R129): comp `1001111`, out = `-D`. -/
  | comp1001111 (d : Dest) (j : Jump)
  /-- `comp#1010000` (R129): comp `1010000`, out = `~D&M`. -/
  | comp1010000 (d : Dest) (j : Jump)
  /-- `comp#1010001` (R129): comp `1010001`, out = `D|~M`. -/
  | comp1010001 (d : Dest) (j : Jump)
  /-- `comp#1010010` (R129): comp `1010010`, out = `M-D-1`. -/
  | comp1010010 (d : Dest) (j : Jump)
  /-- `comp#1010100` (R129): comp `1010100`, out = `~D&~M`. -/
  | comp1010100 (d : Dest) (j : Jump)
  /-- `comp#1010110` (R129): comp `1010110`, out = `-D-M-2`. -/
  | comp1010110 (d : Dest) (j : Jump)
  /-- `comp#1010111` (R129): comp `1010111`, out = `D+M+1`. -/
  | comp1010111 (d : Dest) (j : Jump)
  /-- `comp#1011000` (R129): comp `1011000`, out = `0`. -/
  | comp1011000 (d : Dest) (j : Jump)
  /-- `comp#1011001` (R129): comp `1011001`, out = `-1`. -/
  | comp1011001 (d : Dest) (j : Jump)
  /-- `comp#1011010` (R129): comp `1011010`, out = `-D-1`. -/
  | comp1011010 (d : Dest) (j : Jump)
  /-- `comp#1011011` (R129): comp `1011011`, out = `D`. -/
  | comp1011011 (d : Dest) (j : Jump)
  /-- `comp#1011100` (R129): comp `1011100`, out = `~D`. -/
  | comp1011100 (d : Dest) (j : Jump)
  /-- `comp#1011101` (R129): comp `1011101`, out = `D`. -/
  | comp1011101 (d : Dest) (j : Jump)
  /-- `comp#1011110` (R129): comp `1011110`, out = `-D-2`. -/
  | comp1011110 (d : Dest) (j : Jump)
  /-- `comp#1011111` (R129): comp `1011111`, out = `D+1`. -/
  | comp1011111 (d : Dest) (j : Jump)
  /-- `comp#1100000` (R129): comp `1100000`, out = `0`. -/
  | comp1100000 (d : Dest) (j : Jump)
  /-- `comp#1100001` (R129): comp `1100001`, out = `-1`. -/
  | comp1100001 (d : Dest) (j : Jump)
  /-- `comp#1100010` (R129): comp `1100010`, out = `M`. -/
  | comp1100010 (d : Dest) (j : Jump)
  /-- `comp#1100011` (R129): comp `1100011`, out = `-M-1`. -/
  | comp1100011 (d : Dest) (j : Jump)
  /-- `comp#1100100` (R129): comp `1100100`, out = `0`. -/
  | comp1100100 (d : Dest) (j : Jump)
  /-- `comp#1100101` (R129): comp `1100101`, out = `-1`. -/
  | comp1100101 (d : Dest) (j : Jump)
  /-- `comp#1100110` (R129): comp `1100110`, out = `-M-1`. -/
  | comp1100110 (d : Dest) (j : Jump)
  /-- `comp#1100111` (R129): comp `1100111`, out = `M`. -/
  | comp1100111 (d : Dest) (j : Jump)
  /-- `comp#1101000` (R129): comp `1101000`, out = `0`. -/
  | comp1101000 (d : Dest) (j : Jump)
  /-- `comp#1101001` (R129): comp `1101001`, out = `-1`. -/
  | comp1101001 (d : Dest) (j : Jump)
  /-- `comp#1101010` (R129): comp `1101010`, out = `0`. -/
  | comp1101010 (d : Dest) (j : Jump)
  /-- `comp#1101011` (R129): comp `1101011`, out = `-1`. -/
  | comp1101011 (d : Dest) (j : Jump)
  /-- `comp#1101100` (R129): comp `1101100`, out = `0`. -/
  | comp1101100 (d : Dest) (j : Jump)
  /-- `comp#1101101` (R129): comp `1101101`, out = `-1`. -/
  | comp1101101 (d : Dest) (j : Jump)
  /-- `comp#1101110` (R129): comp `1101110`, out = `-1`. -/
  | comp1101110 (d : Dest) (j : Jump)
  /-- `comp#1101111` (R129): comp `1101111`, out = `0`. -/
  | comp1101111 (d : Dest) (j : Jump)
  /-- `comp#1110100` (R129): comp `1110100`, out = `~M`. -/
  | comp1110100 (d : Dest) (j : Jump)
  /-- `comp#1110101` (R129): comp `1110101`, out = `M`. -/
  | comp1110101 (d : Dest) (j : Jump)
  /-- `comp#1110110` (R129): comp `1110110`, out = `-M-2`. -/
  | comp1110110 (d : Dest) (j : Jump)
  /-- `comp#1111000` (R129): comp `1111000`, out = `0`. -/
  | comp1111000 (d : Dest) (j : Jump)
  /-- `comp#1111001` (R129): comp `1111001`, out = `-1`. -/
  | comp1111001 (d : Dest) (j : Jump)
  /-- `comp#1111010` (R129): comp `1111010`, out = `-1`. -/
  | comp1111010 (d : Dest) (j : Jump)
  /-- `comp#1111011` (R129): comp `1111011`, out = `0`. -/
  | comp1111011 (d : Dest) (j : Jump)
  /-- `comp#1111100` (R129): comp `1111100`, out = `-1`. -/
  | comp1111100 (d : Dest) (j : Jump)
  /-- `comp#1111101` (R129): comp `1111101`, out = `0`. -/
  | comp1111101 (d : Dest) (j : Jump)
  /-- `comp#1111110` (R129): comp `1111110`, out = `-2`. -/
  | comp1111110 (d : Dest) (j : Jump)
  /-- `comp#1111111` (R129): comp `1111111`, out = `1`. -/
  | comp1111111 (d : Dest) (j : Jump)
deriving DecidableEq, Repr

end Sys2Proof
end

