-- ==== Sys2Proof/Decode.lean ====
section
/-! DEFINITION. The decoder, total on every word, and after it the encoder and the opcode table's match and mask
columns. Rules: 30_encoding.md R60 to R67; 40_alu.md R100 to R127, R129, R130. -/

namespace Sys2Proof

/-- The compute instruction of a comp field, its bits in the table's order `a zx nx zy ny f no` (30_encoding.md R62,
R67). Every one of the 128 patterns is an instruction of its own (40_alu.md R129, R130). -/
def compInstr (a zx nx zy ny f no : Bool) (d : Dest) (j : Jump) : Instr :=
  match a, zx, nx, zy, ny, f, no with
  | false, false, false, false, false, false, false => .dAndA d j
  | false, false, false, false, false, false, true => .comp0000001 d j
  | false, false, false, false, false, true, false => .dPlusA d j
  | false, false, false, false, false, true, true => .comp0000011 d j
  | false, false, false, false, true, false, false => .comp0000100 d j
  | false, false, false, false, true, false, true => .comp0000101 d j
  | false, false, false, false, true, true, false => .comp0000110 d j
  | false, false, false, false, true, true, true => .aMinusD d j
  | false, false, false, true, false, false, false => .comp0001000 d j
  | false, false, false, true, false, false, true => .comp0001001 d j
  | false, false, false, true, false, true, false => .comp0001010 d j
  | false, false, false, true, false, true, true => .comp0001011 d j
  | false, false, false, true, true, false, false => .compD d j
  | false, false, false, true, true, false, true => .notD d j
  | false, false, false, true, true, true, false => .dMinusOne d j
  | false, false, false, true, true, true, true => .negD d j
  | false, false, true, false, false, false, false => .comp0010000 d j
  | false, false, true, false, false, false, true => .comp0010001 d j
  | false, false, true, false, false, true, false => .comp0010010 d j
  | false, false, true, false, false, true, true => .dMinusA d j
  | false, false, true, false, true, false, false => .comp0010100 d j
  | false, false, true, false, true, false, true => .dOrA d j
  | false, false, true, false, true, true, false => .comp0010110 d j
  | false, false, true, false, true, true, true => .comp0010111 d j
  | false, false, true, true, false, false, false => .comp0011000 d j
  | false, false, true, true, false, false, true => .comp0011001 d j
  | false, false, true, true, false, true, false => .comp0011010 d j
  | false, false, true, true, false, true, true => .comp0011011 d j
  | false, false, true, true, true, false, false => .comp0011100 d j
  | false, false, true, true, true, false, true => .comp0011101 d j
  | false, false, true, true, true, true, false => .comp0011110 d j
  | false, false, true, true, true, true, true => .dPlusOne d j
  | false, true, false, false, false, false, false => .comp0100000 d j
  | false, true, false, false, false, false, true => .comp0100001 d j
  | false, true, false, false, false, true, false => .comp0100010 d j
  | false, true, false, false, false, true, true => .comp0100011 d j
  | false, true, false, false, true, false, false => .comp0100100 d j
  | false, true, false, false, true, false, true => .comp0100101 d j
  | false, true, false, false, true, true, false => .comp0100110 d j
  | false, true, false, false, true, true, true => .comp0100111 d j
  | false, true, false, true, false, false, false => .comp0101000 d j
  | false, true, false, true, false, false, true => .comp0101001 d j
  | false, true, false, true, false, true, false => .zero d j
  | false, true, false, true, false, true, true => .comp0101011 d j
  | false, true, false, true, true, false, false => .comp0101100 d j
  | false, true, false, true, true, false, true => .comp0101101 d j
  | false, true, false, true, true, true, false => .comp0101110 d j
  | false, true, false, true, true, true, true => .comp0101111 d j
  | false, true, true, false, false, false, false => .compA d j
  | false, true, true, false, false, false, true => .notA d j
  | false, true, true, false, false, true, false => .aMinusOne d j
  | false, true, true, false, false, true, true => .negA d j
  | false, true, true, false, true, false, false => .comp0110100 d j
  | false, true, true, false, true, false, true => .comp0110101 d j
  | false, true, true, false, true, true, false => .comp0110110 d j
  | false, true, true, false, true, true, true => .aPlusOne d j
  | false, true, true, true, false, false, false => .comp0111000 d j
  | false, true, true, true, false, false, true => .comp0111001 d j
  | false, true, true, true, false, true, false => .negOne d j
  | false, true, true, true, false, true, true => .comp0111011 d j
  | false, true, true, true, true, false, false => .comp0111100 d j
  | false, true, true, true, true, false, true => .comp0111101 d j
  | false, true, true, true, true, true, false => .comp0111110 d j
  | false, true, true, true, true, true, true => .one d j
  | true, false, false, false, false, false, false => .dAndM d j
  | true, false, false, false, false, false, true => .comp1000001 d j
  | true, false, false, false, false, true, false => .dPlusM d j
  | true, false, false, false, false, true, true => .comp1000011 d j
  | true, false, false, false, true, false, false => .comp1000100 d j
  | true, false, false, false, true, false, true => .comp1000101 d j
  | true, false, false, false, true, true, false => .comp1000110 d j
  | true, false, false, false, true, true, true => .mMinusD d j
  | true, false, false, true, false, false, false => .comp1001000 d j
  | true, false, false, true, false, false, true => .comp1001001 d j
  | true, false, false, true, false, true, false => .comp1001010 d j
  | true, false, false, true, false, true, true => .comp1001011 d j
  | true, false, false, true, true, false, false => .comp1001100 d j
  | true, false, false, true, true, false, true => .comp1001101 d j
  | true, false, false, true, true, true, false => .comp1001110 d j
  | true, false, false, true, true, true, true => .comp1001111 d j
  | true, false, true, false, false, false, false => .comp1010000 d j
  | true, false, true, false, false, false, true => .comp1010001 d j
  | true, false, true, false, false, true, false => .comp1010010 d j
  | true, false, true, false, false, true, true => .dMinusM d j
  | true, false, true, false, true, false, false => .comp1010100 d j
  | true, false, true, false, true, false, true => .dOrM d j
  | true, false, true, false, true, true, false => .comp1010110 d j
  | true, false, true, false, true, true, true => .comp1010111 d j
  | true, false, true, true, false, false, false => .comp1011000 d j
  | true, false, true, true, false, false, true => .comp1011001 d j
  | true, false, true, true, false, true, false => .comp1011010 d j
  | true, false, true, true, false, true, true => .comp1011011 d j
  | true, false, true, true, true, false, false => .comp1011100 d j
  | true, false, true, true, true, false, true => .comp1011101 d j
  | true, false, true, true, true, true, false => .comp1011110 d j
  | true, false, true, true, true, true, true => .comp1011111 d j
  | true, true, false, false, false, false, false => .comp1100000 d j
  | true, true, false, false, false, false, true => .comp1100001 d j
  | true, true, false, false, false, true, false => .comp1100010 d j
  | true, true, false, false, false, true, true => .comp1100011 d j
  | true, true, false, false, true, false, false => .comp1100100 d j
  | true, true, false, false, true, false, true => .comp1100101 d j
  | true, true, false, false, true, true, false => .comp1100110 d j
  | true, true, false, false, true, true, true => .comp1100111 d j
  | true, true, false, true, false, false, false => .comp1101000 d j
  | true, true, false, true, false, false, true => .comp1101001 d j
  | true, true, false, true, false, true, false => .comp1101010 d j
  | true, true, false, true, false, true, true => .comp1101011 d j
  | true, true, false, true, true, false, false => .comp1101100 d j
  | true, true, false, true, true, false, true => .comp1101101 d j
  | true, true, false, true, true, true, false => .comp1101110 d j
  | true, true, false, true, true, true, true => .comp1101111 d j
  | true, true, true, false, false, false, false => .compM d j
  | true, true, true, false, false, false, true => .notM d j
  | true, true, true, false, false, true, false => .mMinusOne d j
  | true, true, true, false, false, true, true => .negM d j
  | true, true, true, false, true, false, false => .comp1110100 d j
  | true, true, true, false, true, false, true => .comp1110101 d j
  | true, true, true, false, true, true, false => .comp1110110 d j
  | true, true, true, false, true, true, true => .mPlusOne d j
  | true, true, true, true, false, false, false => .comp1111000 d j
  | true, true, true, true, false, false, true => .comp1111001 d j
  | true, true, true, true, false, true, false => .comp1111010 d j
  | true, true, true, true, false, true, true => .comp1111011 d j
  | true, true, true, true, true, false, false => .comp1111100 d j
  | true, true, true, true, true, false, true => .comp1111101 d j
  | true, true, true, true, true, true, false => .comp1111110 d j
  | true, true, true, true, true, true, true => .comp1111111 d j

/-- The dest field of a word, `ins[5:3]` (30_encoding.md R62). -/
def destOf (w : Word) : Dest := ⟨w.getLsbD 5, w.getLsbD 4, w.getLsbD 3⟩

/-- The jump field of a word, `ins[2:0]` (30_encoding.md R62). -/
def jumpOf (w : Word) : Jump := ⟨w.getLsbD 2, w.getLsbD 1, w.getLsbD 0⟩

/-- The value field of a word, `ins[14:0]` (30_encoding.md R63). -/
def valueOf (w : Word) : Addr := w.setWidth 15

/-- The decoder's steps are those of 30_encoding.md R67: the class bit `ins[15]` (R61), then either the value or the
three independent fields. It refuses no word (R65) and reads no reserved bit. -/
def decode (w : Word) : Instr :=
  if w.getLsbD 15 then
    compInstr (w.getLsbD 12) (w.getLsbD 11) (w.getLsbD 10) (w.getLsbD 9) (w.getLsbD 8) (w.getLsbD 7) (w.getLsbD 6)
      (destOf w) (jumpOf w)
  else .atValue (valueOf w)

/-- Why a string of bits is no instruction word: an instruction is exactly one 16-bit word (30_encoding.md R60), and
an operand of another width is an "invalid width" (44_computer.md R202). Safe. -/
inductive DecodeReject where
  /-- More bits than the one word of an instruction. -/
  | invalidWidth (nbits : Nat)
deriving DecidableEq, Repr

/-- The decoder on a number of bits that need not be 16: bits above `nbits` are 0, and more than one word is rejected
by name (notes/assumptions/14.md). -/
def decodeBits (nbits w : Nat) : Except DecodeReject Instr :=
  if nbits ≤ 16 then .ok (decode (BitVec.ofNat 16 (w % 2 ^ nbits))) else .error (.invalidWidth nbits)

/-- What the decoder reads from a word numbered as spec/opcode_table.json numbers it (bit 0 the least significant). -/
def decodeTableWord (nbits w : Nat) : Option Instr :=
  match decodeBits nbits w with
  | .ok i => some i
  | .error _ => none

/-- The bits of the dest field, `dA` first (30_encoding.md R62). -/
def Dest.bits (d : Dest) : BitVec 3 := BitVec.ofBool d.dA ++ BitVec.ofBool d.dD ++ BitVec.ofBool d.dM

/-- The bits of the jump field, `jN` first (30_encoding.md R62). -/
def Jump.bits (j : Jump) : BitVec 3 := BitVec.ofBool j.jN ++ BitVec.ofBool j.jZ ++ BitVec.ofBool j.jP

/-- The bit picture of a compute word, `1 r r` then comp, dest and jump (30_encoding.md R62), `r` the reserved bits. -/
def computeWord (r : BitVec 2) (comp : BitVec 7) (d : Dest) (j : Jump) : Word :=
  1#1 ++ r ++ comp ++ d.bits ++ j.bits

/-- The word of an instruction (30_encoding.md R62, R63). The reserved bits are written 11, as the spec writes them
(92_eei_decisions.md D2, notes/assumptions/12.md). -/
def encode (i : Instr) : Word :=
  match i with
  | .atValue v => 0#1 ++ v
  | .zero d j => computeWord 0b11#2 0b0101010#7 d j
  | .one d j => computeWord 0b11#2 0b0111111#7 d j
  | .negOne d j => computeWord 0b11#2 0b0111010#7 d j
  | .compD d j => computeWord 0b11#2 0b0001100#7 d j
  | .compA d j => computeWord 0b11#2 0b0110000#7 d j
  | .compM d j => computeWord 0b11#2 0b1110000#7 d j
  | .notD d j => computeWord 0b11#2 0b0001101#7 d j
  | .notA d j => computeWord 0b11#2 0b0110001#7 d j
  | .notM d j => computeWord 0b11#2 0b1110001#7 d j
  | .negD d j => computeWord 0b11#2 0b0001111#7 d j
  | .negA d j => computeWord 0b11#2 0b0110011#7 d j
  | .negM d j => computeWord 0b11#2 0b1110011#7 d j
  | .dPlusOne d j => computeWord 0b11#2 0b0011111#7 d j
  | .aPlusOne d j => computeWord 0b11#2 0b0110111#7 d j
  | .mPlusOne d j => computeWord 0b11#2 0b1110111#7 d j
  | .dMinusOne d j => computeWord 0b11#2 0b0001110#7 d j
  | .aMinusOne d j => computeWord 0b11#2 0b0110010#7 d j
  | .mMinusOne d j => computeWord 0b11#2 0b1110010#7 d j
  | .dPlusA d j => computeWord 0b11#2 0b0000010#7 d j
  | .dPlusM d j => computeWord 0b11#2 0b1000010#7 d j
  | .dMinusA d j => computeWord 0b11#2 0b0010011#7 d j
  | .dMinusM d j => computeWord 0b11#2 0b1010011#7 d j
  | .aMinusD d j => computeWord 0b11#2 0b0000111#7 d j
  | .mMinusD d j => computeWord 0b11#2 0b1000111#7 d j
  | .dAndA d j => computeWord 0b11#2 0b0000000#7 d j
  | .dAndM d j => computeWord 0b11#2 0b1000000#7 d j
  | .dOrA d j => computeWord 0b11#2 0b0010101#7 d j
  | .dOrM d j => computeWord 0b11#2 0b1010101#7 d j
  | .comp0000001 d j => computeWord 0b11#2 0b0000001#7 d j
  | .comp0000011 d j => computeWord 0b11#2 0b0000011#7 d j
  | .comp0000100 d j => computeWord 0b11#2 0b0000100#7 d j
  | .comp0000101 d j => computeWord 0b11#2 0b0000101#7 d j
  | .comp0000110 d j => computeWord 0b11#2 0b0000110#7 d j
  | .comp0001000 d j => computeWord 0b11#2 0b0001000#7 d j
  | .comp0001001 d j => computeWord 0b11#2 0b0001001#7 d j
  | .comp0001010 d j => computeWord 0b11#2 0b0001010#7 d j
  | .comp0001011 d j => computeWord 0b11#2 0b0001011#7 d j
  | .comp0010000 d j => computeWord 0b11#2 0b0010000#7 d j
  | .comp0010001 d j => computeWord 0b11#2 0b0010001#7 d j
  | .comp0010010 d j => computeWord 0b11#2 0b0010010#7 d j
  | .comp0010100 d j => computeWord 0b11#2 0b0010100#7 d j
  | .comp0010110 d j => computeWord 0b11#2 0b0010110#7 d j
  | .comp0010111 d j => computeWord 0b11#2 0b0010111#7 d j
  | .comp0011000 d j => computeWord 0b11#2 0b0011000#7 d j
  | .comp0011001 d j => computeWord 0b11#2 0b0011001#7 d j
  | .comp0011010 d j => computeWord 0b11#2 0b0011010#7 d j
  | .comp0011011 d j => computeWord 0b11#2 0b0011011#7 d j
  | .comp0011100 d j => computeWord 0b11#2 0b0011100#7 d j
  | .comp0011101 d j => computeWord 0b11#2 0b0011101#7 d j
  | .comp0011110 d j => computeWord 0b11#2 0b0011110#7 d j
  | .comp0100000 d j => computeWord 0b11#2 0b0100000#7 d j
  | .comp0100001 d j => computeWord 0b11#2 0b0100001#7 d j
  | .comp0100010 d j => computeWord 0b11#2 0b0100010#7 d j
  | .comp0100011 d j => computeWord 0b11#2 0b0100011#7 d j
  | .comp0100100 d j => computeWord 0b11#2 0b0100100#7 d j
  | .comp0100101 d j => computeWord 0b11#2 0b0100101#7 d j
  | .comp0100110 d j => computeWord 0b11#2 0b0100110#7 d j
  | .comp0100111 d j => computeWord 0b11#2 0b0100111#7 d j
  | .comp0101000 d j => computeWord 0b11#2 0b0101000#7 d j
  | .comp0101001 d j => computeWord 0b11#2 0b0101001#7 d j
  | .comp0101011 d j => computeWord 0b11#2 0b0101011#7 d j
  | .comp0101100 d j => computeWord 0b11#2 0b0101100#7 d j
  | .comp0101101 d j => computeWord 0b11#2 0b0101101#7 d j
  | .comp0101110 d j => computeWord 0b11#2 0b0101110#7 d j
  | .comp0101111 d j => computeWord 0b11#2 0b0101111#7 d j
  | .comp0110100 d j => computeWord 0b11#2 0b0110100#7 d j
  | .comp0110101 d j => computeWord 0b11#2 0b0110101#7 d j
  | .comp0110110 d j => computeWord 0b11#2 0b0110110#7 d j
  | .comp0111000 d j => computeWord 0b11#2 0b0111000#7 d j
  | .comp0111001 d j => computeWord 0b11#2 0b0111001#7 d j
  | .comp0111011 d j => computeWord 0b11#2 0b0111011#7 d j
  | .comp0111100 d j => computeWord 0b11#2 0b0111100#7 d j
  | .comp0111101 d j => computeWord 0b11#2 0b0111101#7 d j
  | .comp0111110 d j => computeWord 0b11#2 0b0111110#7 d j
  | .comp1000001 d j => computeWord 0b11#2 0b1000001#7 d j
  | .comp1000011 d j => computeWord 0b11#2 0b1000011#7 d j
  | .comp1000100 d j => computeWord 0b11#2 0b1000100#7 d j
  | .comp1000101 d j => computeWord 0b11#2 0b1000101#7 d j
  | .comp1000110 d j => computeWord 0b11#2 0b1000110#7 d j
  | .comp1001000 d j => computeWord 0b11#2 0b1001000#7 d j
  | .comp1001001 d j => computeWord 0b11#2 0b1001001#7 d j
  | .comp1001010 d j => computeWord 0b11#2 0b1001010#7 d j
  | .comp1001011 d j => computeWord 0b11#2 0b1001011#7 d j
  | .comp1001100 d j => computeWord 0b11#2 0b1001100#7 d j
  | .comp1001101 d j => computeWord 0b11#2 0b1001101#7 d j
  | .comp1001110 d j => computeWord 0b11#2 0b1001110#7 d j
  | .comp1001111 d j => computeWord 0b11#2 0b1001111#7 d j
  | .comp1010000 d j => computeWord 0b11#2 0b1010000#7 d j
  | .comp1010001 d j => computeWord 0b11#2 0b1010001#7 d j
  | .comp1010010 d j => computeWord 0b11#2 0b1010010#7 d j
  | .comp1010100 d j => computeWord 0b11#2 0b1010100#7 d j
  | .comp1010110 d j => computeWord 0b11#2 0b1010110#7 d j
  | .comp1010111 d j => computeWord 0b11#2 0b1010111#7 d j
  | .comp1011000 d j => computeWord 0b11#2 0b1011000#7 d j
  | .comp1011001 d j => computeWord 0b11#2 0b1011001#7 d j
  | .comp1011010 d j => computeWord 0b11#2 0b1011010#7 d j
  | .comp1011011 d j => computeWord 0b11#2 0b1011011#7 d j
  | .comp1011100 d j => computeWord 0b11#2 0b1011100#7 d j
  | .comp1011101 d j => computeWord 0b11#2 0b1011101#7 d j
  | .comp1011110 d j => computeWord 0b11#2 0b1011110#7 d j
  | .comp1011111 d j => computeWord 0b11#2 0b1011111#7 d j
  | .comp1100000 d j => computeWord 0b11#2 0b1100000#7 d j
  | .comp1100001 d j => computeWord 0b11#2 0b1100001#7 d j
  | .comp1100010 d j => computeWord 0b11#2 0b1100010#7 d j
  | .comp1100011 d j => computeWord 0b11#2 0b1100011#7 d j
  | .comp1100100 d j => computeWord 0b11#2 0b1100100#7 d j
  | .comp1100101 d j => computeWord 0b11#2 0b1100101#7 d j
  | .comp1100110 d j => computeWord 0b11#2 0b1100110#7 d j
  | .comp1100111 d j => computeWord 0b11#2 0b1100111#7 d j
  | .comp1101000 d j => computeWord 0b11#2 0b1101000#7 d j
  | .comp1101001 d j => computeWord 0b11#2 0b1101001#7 d j
  | .comp1101010 d j => computeWord 0b11#2 0b1101010#7 d j
  | .comp1101011 d j => computeWord 0b11#2 0b1101011#7 d j
  | .comp1101100 d j => computeWord 0b11#2 0b1101100#7 d j
  | .comp1101101 d j => computeWord 0b11#2 0b1101101#7 d j
  | .comp1101110 d j => computeWord 0b11#2 0b1101110#7 d j
  | .comp1101111 d j => computeWord 0b11#2 0b1101111#7 d j
  | .comp1110100 d j => computeWord 0b11#2 0b1110100#7 d j
  | .comp1110101 d j => computeWord 0b11#2 0b1110101#7 d j
  | .comp1110110 d j => computeWord 0b11#2 0b1110110#7 d j
  | .comp1111000 d j => computeWord 0b11#2 0b1111000#7 d j
  | .comp1111001 d j => computeWord 0b11#2 0b1111001#7 d j
  | .comp1111010 d j => computeWord 0b11#2 0b1111010#7 d j
  | .comp1111011 d j => computeWord 0b11#2 0b1111011#7 d j
  | .comp1111100 d j => computeWord 0b11#2 0b1111100#7 d j
  | .comp1111101 d j => computeWord 0b11#2 0b1111101#7 d j
  | .comp1111110 d j => computeWord 0b11#2 0b1111110#7 d j
  | .comp1111111 d j => computeWord 0b11#2 0b1111111#7 d j

/-- A row of spec/opcode_table.json: its `match` and `mask` columns. -/
structure TableRow where
  pattern : Word
  mask : Word
deriving DecidableEq, Repr

/-- A word belongs to a row when its masked bits are the row's pattern. -/
def TableRow.covers (r : TableRow) (w : Word) : Bool := w &&& r.mask == r.pattern

/-- The opcode table's row of each instruction, copied from its `match` and `mask` columns. -/
def tableRow (i : Instr) : TableRow :=
  match i with
  | .atValue _ => ⟨0x0000#16, 0x8000#16⟩
  | .zero _ _ => ⟨0x8A80#16, 0x9FC0#16⟩
  | .one _ _ => ⟨0x8FC0#16, 0x9FC0#16⟩
  | .negOne _ _ => ⟨0x8E80#16, 0x9FC0#16⟩
  | .compD _ _ => ⟨0x8300#16, 0x9FC0#16⟩
  | .compA _ _ => ⟨0x8C00#16, 0x9FC0#16⟩
  | .compM _ _ => ⟨0x9C00#16, 0x9FC0#16⟩
  | .notD _ _ => ⟨0x8340#16, 0x9FC0#16⟩
  | .notA _ _ => ⟨0x8C40#16, 0x9FC0#16⟩
  | .notM _ _ => ⟨0x9C40#16, 0x9FC0#16⟩
  | .negD _ _ => ⟨0x83C0#16, 0x9FC0#16⟩
  | .negA _ _ => ⟨0x8CC0#16, 0x9FC0#16⟩
  | .negM _ _ => ⟨0x9CC0#16, 0x9FC0#16⟩
  | .dPlusOne _ _ => ⟨0x87C0#16, 0x9FC0#16⟩
  | .aPlusOne _ _ => ⟨0x8DC0#16, 0x9FC0#16⟩
  | .mPlusOne _ _ => ⟨0x9DC0#16, 0x9FC0#16⟩
  | .dMinusOne _ _ => ⟨0x8380#16, 0x9FC0#16⟩
  | .aMinusOne _ _ => ⟨0x8C80#16, 0x9FC0#16⟩
  | .mMinusOne _ _ => ⟨0x9C80#16, 0x9FC0#16⟩
  | .dPlusA _ _ => ⟨0x8080#16, 0x9FC0#16⟩
  | .dPlusM _ _ => ⟨0x9080#16, 0x9FC0#16⟩
  | .dMinusA _ _ => ⟨0x84C0#16, 0x9FC0#16⟩
  | .dMinusM _ _ => ⟨0x94C0#16, 0x9FC0#16⟩
  | .aMinusD _ _ => ⟨0x81C0#16, 0x9FC0#16⟩
  | .mMinusD _ _ => ⟨0x91C0#16, 0x9FC0#16⟩
  | .dAndA _ _ => ⟨0x8000#16, 0x9FC0#16⟩
  | .dAndM _ _ => ⟨0x9000#16, 0x9FC0#16⟩
  | .dOrA _ _ => ⟨0x8540#16, 0x9FC0#16⟩
  | .dOrM _ _ => ⟨0x9540#16, 0x9FC0#16⟩
  | .comp0000001 _ _ => ⟨0x8040#16, 0x9FC0#16⟩
  | .comp0000011 _ _ => ⟨0x80C0#16, 0x9FC0#16⟩
  | .comp0000100 _ _ => ⟨0x8100#16, 0x9FC0#16⟩
  | .comp0000101 _ _ => ⟨0x8140#16, 0x9FC0#16⟩
  | .comp0000110 _ _ => ⟨0x8180#16, 0x9FC0#16⟩
  | .comp0001000 _ _ => ⟨0x8200#16, 0x9FC0#16⟩
  | .comp0001001 _ _ => ⟨0x8240#16, 0x9FC0#16⟩
  | .comp0001010 _ _ => ⟨0x8280#16, 0x9FC0#16⟩
  | .comp0001011 _ _ => ⟨0x82C0#16, 0x9FC0#16⟩
  | .comp0010000 _ _ => ⟨0x8400#16, 0x9FC0#16⟩
  | .comp0010001 _ _ => ⟨0x8440#16, 0x9FC0#16⟩
  | .comp0010010 _ _ => ⟨0x8480#16, 0x9FC0#16⟩
  | .comp0010100 _ _ => ⟨0x8500#16, 0x9FC0#16⟩
  | .comp0010110 _ _ => ⟨0x8580#16, 0x9FC0#16⟩
  | .comp0010111 _ _ => ⟨0x85C0#16, 0x9FC0#16⟩
  | .comp0011000 _ _ => ⟨0x8600#16, 0x9FC0#16⟩
  | .comp0011001 _ _ => ⟨0x8640#16, 0x9FC0#16⟩
  | .comp0011010 _ _ => ⟨0x8680#16, 0x9FC0#16⟩
  | .comp0011011 _ _ => ⟨0x86C0#16, 0x9FC0#16⟩
  | .comp0011100 _ _ => ⟨0x8700#16, 0x9FC0#16⟩
  | .comp0011101 _ _ => ⟨0x8740#16, 0x9FC0#16⟩
  | .comp0011110 _ _ => ⟨0x8780#16, 0x9FC0#16⟩
  | .comp0100000 _ _ => ⟨0x8800#16, 0x9FC0#16⟩
  | .comp0100001 _ _ => ⟨0x8840#16, 0x9FC0#16⟩
  | .comp0100010 _ _ => ⟨0x8880#16, 0x9FC0#16⟩
  | .comp0100011 _ _ => ⟨0x88C0#16, 0x9FC0#16⟩
  | .comp0100100 _ _ => ⟨0x8900#16, 0x9FC0#16⟩
  | .comp0100101 _ _ => ⟨0x8940#16, 0x9FC0#16⟩
  | .comp0100110 _ _ => ⟨0x8980#16, 0x9FC0#16⟩
  | .comp0100111 _ _ => ⟨0x89C0#16, 0x9FC0#16⟩
  | .comp0101000 _ _ => ⟨0x8A00#16, 0x9FC0#16⟩
  | .comp0101001 _ _ => ⟨0x8A40#16, 0x9FC0#16⟩
  | .comp0101011 _ _ => ⟨0x8AC0#16, 0x9FC0#16⟩
  | .comp0101100 _ _ => ⟨0x8B00#16, 0x9FC0#16⟩
  | .comp0101101 _ _ => ⟨0x8B40#16, 0x9FC0#16⟩
  | .comp0101110 _ _ => ⟨0x8B80#16, 0x9FC0#16⟩
  | .comp0101111 _ _ => ⟨0x8BC0#16, 0x9FC0#16⟩
  | .comp0110100 _ _ => ⟨0x8D00#16, 0x9FC0#16⟩
  | .comp0110101 _ _ => ⟨0x8D40#16, 0x9FC0#16⟩
  | .comp0110110 _ _ => ⟨0x8D80#16, 0x9FC0#16⟩
  | .comp0111000 _ _ => ⟨0x8E00#16, 0x9FC0#16⟩
  | .comp0111001 _ _ => ⟨0x8E40#16, 0x9FC0#16⟩
  | .comp0111011 _ _ => ⟨0x8EC0#16, 0x9FC0#16⟩
  | .comp0111100 _ _ => ⟨0x8F00#16, 0x9FC0#16⟩
  | .comp0111101 _ _ => ⟨0x8F40#16, 0x9FC0#16⟩
  | .comp0111110 _ _ => ⟨0x8F80#16, 0x9FC0#16⟩
  | .comp1000001 _ _ => ⟨0x9040#16, 0x9FC0#16⟩
  | .comp1000011 _ _ => ⟨0x90C0#16, 0x9FC0#16⟩
  | .comp1000100 _ _ => ⟨0x9100#16, 0x9FC0#16⟩
  | .comp1000101 _ _ => ⟨0x9140#16, 0x9FC0#16⟩
  | .comp1000110 _ _ => ⟨0x9180#16, 0x9FC0#16⟩
  | .comp1001000 _ _ => ⟨0x9200#16, 0x9FC0#16⟩
  | .comp1001001 _ _ => ⟨0x9240#16, 0x9FC0#16⟩
  | .comp1001010 _ _ => ⟨0x9280#16, 0x9FC0#16⟩
  | .comp1001011 _ _ => ⟨0x92C0#16, 0x9FC0#16⟩
  | .comp1001100 _ _ => ⟨0x9300#16, 0x9FC0#16⟩
  | .comp1001101 _ _ => ⟨0x9340#16, 0x9FC0#16⟩
  | .comp1001110 _ _ => ⟨0x9380#16, 0x9FC0#16⟩
  | .comp1001111 _ _ => ⟨0x93C0#16, 0x9FC0#16⟩
  | .comp1010000 _ _ => ⟨0x9400#16, 0x9FC0#16⟩
  | .comp1010001 _ _ => ⟨0x9440#16, 0x9FC0#16⟩
  | .comp1010010 _ _ => ⟨0x9480#16, 0x9FC0#16⟩
  | .comp1010100 _ _ => ⟨0x9500#16, 0x9FC0#16⟩
  | .comp1010110 _ _ => ⟨0x9580#16, 0x9FC0#16⟩
  | .comp1010111 _ _ => ⟨0x95C0#16, 0x9FC0#16⟩
  | .comp1011000 _ _ => ⟨0x9600#16, 0x9FC0#16⟩
  | .comp1011001 _ _ => ⟨0x9640#16, 0x9FC0#16⟩
  | .comp1011010 _ _ => ⟨0x9680#16, 0x9FC0#16⟩
  | .comp1011011 _ _ => ⟨0x96C0#16, 0x9FC0#16⟩
  | .comp1011100 _ _ => ⟨0x9700#16, 0x9FC0#16⟩
  | .comp1011101 _ _ => ⟨0x9740#16, 0x9FC0#16⟩
  | .comp1011110 _ _ => ⟨0x9780#16, 0x9FC0#16⟩
  | .comp1011111 _ _ => ⟨0x97C0#16, 0x9FC0#16⟩
  | .comp1100000 _ _ => ⟨0x9800#16, 0x9FC0#16⟩
  | .comp1100001 _ _ => ⟨0x9840#16, 0x9FC0#16⟩
  | .comp1100010 _ _ => ⟨0x9880#16, 0x9FC0#16⟩
  | .comp1100011 _ _ => ⟨0x98C0#16, 0x9FC0#16⟩
  | .comp1100100 _ _ => ⟨0x9900#16, 0x9FC0#16⟩
  | .comp1100101 _ _ => ⟨0x9940#16, 0x9FC0#16⟩
  | .comp1100110 _ _ => ⟨0x9980#16, 0x9FC0#16⟩
  | .comp1100111 _ _ => ⟨0x99C0#16, 0x9FC0#16⟩
  | .comp1101000 _ _ => ⟨0x9A00#16, 0x9FC0#16⟩
  | .comp1101001 _ _ => ⟨0x9A40#16, 0x9FC0#16⟩
  | .comp1101010 _ _ => ⟨0x9A80#16, 0x9FC0#16⟩
  | .comp1101011 _ _ => ⟨0x9AC0#16, 0x9FC0#16⟩
  | .comp1101100 _ _ => ⟨0x9B00#16, 0x9FC0#16⟩
  | .comp1101101 _ _ => ⟨0x9B40#16, 0x9FC0#16⟩
  | .comp1101110 _ _ => ⟨0x9B80#16, 0x9FC0#16⟩
  | .comp1101111 _ _ => ⟨0x9BC0#16, 0x9FC0#16⟩
  | .comp1110100 _ _ => ⟨0x9D00#16, 0x9FC0#16⟩
  | .comp1110101 _ _ => ⟨0x9D40#16, 0x9FC0#16⟩
  | .comp1110110 _ _ => ⟨0x9D80#16, 0x9FC0#16⟩
  | .comp1111000 _ _ => ⟨0x9E00#16, 0x9FC0#16⟩
  | .comp1111001 _ _ => ⟨0x9E40#16, 0x9FC0#16⟩
  | .comp1111010 _ _ => ⟨0x9E80#16, 0x9FC0#16⟩
  | .comp1111011 _ _ => ⟨0x9EC0#16, 0x9FC0#16⟩
  | .comp1111100 _ _ => ⟨0x9F00#16, 0x9FC0#16⟩
  | .comp1111101 _ _ => ⟨0x9F40#16, 0x9FC0#16⟩
  | .comp1111110 _ _ => ⟨0x9F80#16, 0x9FC0#16⟩
  | .comp1111111 _ _ => ⟨0x9FC0#16, 0x9FC0#16⟩

end Sys2Proof
end

