-- ==== Sys2Proof/Machine/Flags.lean ====
section
/-! DEFINITION. The ALU's two flags and the jump decision. The flags are computed in each tick from that tick's ALU
output and are not stored (10_state.md R29). There is no carry or overflow flag (40_alu.md R88). -/

namespace Sys2Proof.Machine

/-- `zr`: the output is all zero (40_alu.md R91). -/
def zr (out : Word) : Bool := out == 0#16

/-- `ng`: the output's most significant bit (40_alu.md R91). -/
def ng (out : Word) : Bool := out.getLsbD 15

/-- The jump decision of a compute instruction: any set jump bit that matches the sign of the output
(43_compute_instruction.md R168). -/
def jumpTaken (j : Jump) (out : Word) : Bool :=
  (j.jN && ng out) || (j.jZ && zr out) || (j.jP && !ng out && !zr out)

end Sys2Proof.Machine
end

