-- ==== Sys2Proof/Machine/Alu.lean ====
section
/-! DEFINITION. The ALU as a function on words (40_alu.md R90). The gate-level circuit of 40_alu.md R80 to R90 is in
Machine/Gates.lean (notes/assumptions/16.md). -/

namespace Sys2Proof.Machine

/-- The six control inputs of the ALU (40_alu.md R90). -/
structure AluCtl where
  zx : Bool
  nx : Bool
  zy : Bool
  ny : Bool
  f : Bool
  no : Bool
deriving DecidableEq, Repr

/-- The control inputs from six bits written in the order `zx nx zy ny f no` (40_alu.md R93; 43_compute_instruction.md
R169). -/
def AluCtl.ofBits (b : BitVec 6) : AluCtl :=
  { zx := b.getLsbD 5, nx := b.getLsbD 4, zy := b.getLsbD 3, ny := b.getLsbD 2, f := b.getLsbD 1, no := b.getLsbD 0 }

/-- An ALU operand after its zero and negate controls: `x'` or `y'` of 40_alu.md R90. -/
def aluPre (z n : Bool) (v : Word) : Word :=
  let v1 := if z then 0#16 else v
  if n then ~~~v1 else v1

/-- The ALU's output (40_alu.md R90); addition is modulo 2^16 (R87). -/
def alu (c : AluCtl) (x y : Word) : Word :=
  let x' := aluPre c.zx c.nx x
  let y' := aluPre c.zy c.ny y
  let r := if c.f then x' + y' else x' &&& y'
  if c.no then ~~~r else r

end Sys2Proof.Machine
end

