-- ==== Sys2Proof/Config.lean ====
section
/-! DEFINITION. The parameters of the hardware (00_scope.md R5) and what a word of memory that nothing has written
reads as. The spec leaves no result of an instruction open, so there is no free value here. -/

namespace Sys2Proof.Config

/-- Words in each of the two memories (20_memory.md R40, R48), and the most lines a preload may have (44_computer.md R202). -/
def memoryWords : Nat := 32768

/-- What an unlisted word of RAM or ROM reads as. DESIGN CHOICE (notes/assumptions/2.md): the spec's reference
POWER_ON_STATE, 0 (92_eei_decisions.md D1). Unsafe: a chip may power on with other contents. -/
def unlistedWord : Word := 0#16

/-- The reset vector, address 0 of the instruction memory (41_program_counter.md R140; 20_memory.md R47). -/
def resetVector : Word := 0#16

end Sys2Proof.Config
end

