-- ==== Sys2Proof/Machine/State.lean ====
section
/-! DEFINITION. The machine's state as plain data: the tuple `(PC, A, D, L, Min, RAM, ROM)` of 10_state.md R20 and the
host's `reset` input; the ways to stop; power-on and reset. -/

namespace Sys2Proof.Machine

/-- One word of a memory at its address. The memories have no bytes: the unit of addressing is the 16-bit word
(20_memory.md R50; notes/assumptions/3.md). -/
abbrev WordCell := Nat × Word

/-- A memory of 32768 words (20_memory.md R40, R48): the words that differ from `Config.unlistedWord`, by address. Its
canonical form is `Memory.wf`, in Machine/Ops.lean. -/
abbrev Memory := List WordCell

/-- Why the machine stops. There is no constructor: no instruction, access or fetch raises an exception and the tick
is always possible (60_exceptions.md R220; 44_computer.md R206, R207; notes/assumptions/17.md). Nobody raises a fault. -/
inductive Fault where
deriving DecidableEq, Repr

/-- Why something is not run. No step of the machine answers one of these. -/
inductive Refusal where
  /-- An instruction whose meaning is not written. Raised by exec's refused arms, of which there are none. Safe. -/
  | notModelled (mnemonic : String)
  /-- The preload met line `line` (from 0), which is not 16 characters `0` or `1`: the "invalid width" of
  44_computer.md R202. Raised by `preload` before any tick. Safe. -/
  | invalidWidth (line : Nat)
  /-- The preload was given `lines` lines, more than the 32768 words of the instruction memory (44_computer.md R202).
  Raised by `preload` before any tick. Safe. -/
  | programTooLong (lines : Nat)
deriving DecidableEq, Repr

/-- The complete state (10_state.md R20; 70_reset_and_hazards.md R251) at the start of a tick. -/
structure State where
  /-- `PC`, the program counter (R24). -/
  pc : Word
  /-- `A` (R21). -/
  regA : Word
  /-- `D` (R22). -/
  regD : Word
  /-- `L`, the latched previous ALU output (R23). -/
  latchL : Word
  /-- `Min`, the memory output of the previous tick (R26). -/
  memIn : Word
  /-- `RAM` (R25). -/
  ram : Memory
  /-- `ROM` (R27). -/
  rom : Memory
  /-- The host's `reset` input: its head for this tick, then the ticks to come, 0 when the list is used up
  (44_computer.md R205, R209; the model's own field, notes/assumptions/5.md). -/
  resetIn : List Bool
deriving DecidableEq, Repr

/-- The parameter POWER_ON_STATE (92_eei_decisions.md D1): the contents of every storage element before the first
tick, `rom` being those of the instruction memory before the preload. -/
structure PowerOn where
  pc : Word
  regA : Word
  regD : Word
  latchL : Word
  memIn : Word
  ram : Memory
  rom : Memory
deriving DecidableEq, Repr

/-- The reference POWER_ON_STATE: every element 0 (10_state.md R33). DESIGN CHOICE (notes/assumptions/1.md and 2.md). -/
def PowerOn.reference : PowerOn :=
  { pc := 0#16, regA := 0#16, regD := 0#16, latchL := 0#16, memIn := 0#16, ram := [], rom := [] }

/-- The state before the first tick (70_reset_and_hazards.md R241), with nothing preloaded and no reset scheduled. -/
def State.powerOn (p : PowerOn) : State :=
  { pc := p.pc, regA := p.regA, regD := p.regD, latchL := p.latchL, memIn := p.memIn, ram := p.ram, rom := p.rom,
    resetIn := [] }

/-- The machine at the reference power-on state, nothing preloaded; its program counter is at the reset vector. -/
def State.reset : State := State.powerOn PowerOn.reference

/-- The state with another instruction memory (the preload, 44_computer.md R201). -/
def State.setRom (s : State) (m : Memory) : State := { s with rom := m }

/-- The state with another schedule of the host's `reset` input (44_computer.md R209). -/
def State.setResetIn (s : State) (r : List Bool) : State := { s with resetIn := r }

end Sys2Proof.Machine
end

