-- ==== Sys2Proof/Machine/Operands.lean ====
section
/-! DEFINITION. The ALU's operands, and the control signals an instruction gives the datapath. -/

namespace Sys2Proof.Machine

/-- Which value is the ALU's second operand: the operand-select bit `a` (43_compute_instruction.md R165). -/
inductive YSource where
  /-- `a = 0`: the A register, after its update of this tick. -/
  | regA
  /-- `a = 1`: the memory input `Min`, written `M`. -/
  | memIn
deriving DecidableEq, Repr

/-- The operand-select bit `a` as a source (30_encoding.md R62). -/
def YSource.ofBit (a : Bool) : YSource := if a then .memIn else .regA

/-- The first operand: D at the start of the tick (43_compute_instruction.md R164). -/
def operandX (s : State) : Word := s.regD

/-- The second operand (43_compute_instruction.md R165); `newA` is the post-update A, and the memory input is the word
that the memory reported in the previous tick. -/
def operandY (y : YSource) (newA : Word) (s : State) : Word :=
  match y with
  | .regA => newA
  | .memIn => s.memIn

/-- The control signals of one tick (43_compute_instruction.md R160). -/
structure Controls where
  /-- A is loaded (step 1). -/
  loadA : Bool
  /-- What A is loaded with (step 1). -/
  sourceA : Word
  /-- The second operand (step 3). -/
  y : YSource
  /-- The ALU's control bits (step 4). -/
  alu : AluCtl
  /-- D is loaded (step 2). -/
  loadD : Bool
  /-- The memory is written (step 5). -/
  writeM : Bool
  /-- The jump bits (step 6). -/
  jump : Jump
deriving DecidableEq, Repr

/-- The signals of an address instruction (42_address_instruction.md R150): A takes the zero-extended value, nothing
else is loaded or written, the jump is suppressed, and the ALU works under the value's own bits (30_encoding.md R66). -/
def addressControls (v : Addr) : Controls :=
  { loadA := true, sourceA := v.setWidth 16, y := YSource.ofBit (v.getLsbD 12), alu := AluCtl.ofBits (v.extractLsb' 6 6),
    loadD := false, writeM := false, jump := Jump.none }

/-- The signals of a compute instruction: a set destination-A bit loads A with the ALU output of the previous tick
(43_compute_instruction.md R162), the others are R163, R167, R168. -/
def computeControls (y : YSource) (c : AluCtl) (d : Dest) (j : Jump) (s : State) : Controls :=
  { loadA := d.dA, sourceA := s.latchL, y := y, alu := c, loadD := d.dD, writeM := d.dM, jump := j }

end Sys2Proof.Machine
end

