-- ==== Sys2Proof/Machine/Ops.lean ====
section
/-! DEFINITION. The named operations over memory and registers, and the tick that every instruction shares. The
hardware has no exception (60_exceptions.md R220, R224, R225), so no operation takes one or returns from one. -/

namespace Sys2Proof.Machine

/-- The 15-bit address in a 16-bit word (00_scope.md R8; 92_eei_decisions.md D3; notes/assumptions/6.md). -/
def low15 (v : Word) : Addr := v.setWidth 15

/-! ### Memory -/

/-- The canonical form from address `lo` on: addresses strictly rising and inside the memory, no word equal to what an
unlisted address reads as. -/
def Memory.wfFrom (lo : Nat) : Memory → Bool
  | [] => true
  | (a, w) :: rest =>
    decide (lo ≤ a) && decide (a < Config.memoryWords) && (w != Config.unlistedWord) && Memory.wfFrom (a + 1) rest

/-- The canonical form of a memory. -/
def Memory.wf (m : Memory) : Bool := Memory.wfFrom 0 m

/-- The word listed at key `a`, else what an unlisted address reads as. -/
def Memory.lookup (a : Nat) : Memory → Word
  | [] => Config.unlistedWord
  | (b, w) :: rest => if a = b then w else Memory.lookup a rest

/-- `MemRead(addr, 1)` and `RomRead(addr)` (20_memory.md R40, R48). Every address exists, so no read fails. -/
def Memory.read (m : Memory) (addr : Addr) : Word := Memory.lookup addr.toNat m

/-- A cell put in its place in a list of rising addresses. -/
def Memory.insertCell (a : Nat) (v : Word) : Memory → Memory
  | [] => [(a, v)]
  | (b, w) :: rest => if a < b then (a, v) :: (b, w) :: rest else (b, w) :: Memory.insertCell a v rest

/-- The memory without key `a`. -/
def Memory.erase (a : Nat) (m : Memory) : Memory := m.filter (fun c => c.1 != a)

/-- `MemWrite(addr, 1, v)` (20_memory.md R44), keeping the canonical form. -/
def Memory.write (m : Memory) (addr : Addr) (v : Word) : Memory :=
  if v = Config.unlistedWord then Memory.erase addr.toNat m
  else Memory.insertCell addr.toNat v (Memory.erase addr.toNat m)

/-- The memory's one operation of a tick, `update(in, addr, load)`: the memory afterwards and the word it reports,
read after the write (20_memory.md R45). -/
def Memory.update (m : Memory) (inp : Word) (addr : Addr) (load : Bool) : Memory × Word :=
  let m' := if load then m.write addr inp else m
  (m', m'.read addr)

/-! ### Registers and the program counter -/

/-- The storage cell's update (10_state.md R28). -/
def cellUpdate (old inp load : Bool) : Bool := if load then inp else old

/-- The register's update-then-read-current contract (10_state.md R28): both the value reported and the value kept. -/
def registerUpdate (old inp : Word) (load : Bool) : Word := if load then inp else old

/-- The program counter's update: the value it reports, which is the old one, and its new value, by strict priority
reset, load, inc, hold (41_program_counter.md R140). -/
def pcUpdate (old inp : Word) (inc load reset : Bool) : Word × Word :=
  (old, if reset then Config.resetVector else if load then inp else if inc then old + 1 else old)

/-- The host's `reset` input of this tick (44_computer.md R205; notes/assumptions/5.md). -/
def resetNow (s : State) : Bool := s.resetIn.headD false

/-- The instruction word of this tick, `RomRead(low15(PC))` (44_computer.md R205; notes/assumptions/8.md). -/
def fetch (s : State) : Word := s.rom.read (low15 s.pc)

/-! ### The tick -/

/-- A after its update of this tick (43_compute_instruction.md R160 step 1, R162). -/
def newA (g : Controls) (s : State) : Word := registerUpdate s.regA g.sourceA g.loadA

/-- The ALU's output in this tick (43_compute_instruction.md R160 steps 3 and 4). -/
def aluOut (g : Controls) (s : State) : Word := alu g.alu (operandX s) (operandY g.y (newA g s) s)

/-- One tick of the Computer (44_computer.md R205) under the signals of its instruction: A is updated before it is
read (notes/assumptions/9.md), the memory is written and then read at `A'`, the ALU output is latched in every tick
(R170; notes/assumptions/7.md), the ROM is only read, and the host's input of this tick is used up. -/
def runTick (g : Controls) (s : State) : State :=
  { pc := (pcUpdate s.pc (newA g s) true (jumpTaken g.jump (aluOut g s)) (resetNow s)).2
    regA := newA g s
    regD := registerUpdate s.regD (aluOut g s) g.loadD
    latchL := aluOut g s
    memIn := (s.ram.update (aluOut g s) (low15 (newA g s)) g.writeM).2
    ram := (s.ram.update (aluOut g s) (low15 (newA g s)) g.writeM).1
    rom := s.rom
    resetIn := s.resetIn.tail }

/-- A tick of a compute instruction: its second operand, its control bits `zx nx zy ny f no`, dest and jump. No
compute instruction raises an exception (43_compute_instruction.md R171). -/
def computeTick (y : YSource) (bits : BitVec 6) (d : Dest) (j : Jump) (s : State) : Host.Outcome State Fault Refusal :=
  .next (runTick (computeControls y (AluCtl.ofBits bits) d j s) s)

end Sys2Proof.Machine
end

