-- ==== Sys2Proof/Machine/AddressInstr.lean ====
section
/-! DEFINITION. The meaning of the address instruction (42_address_instruction.md R150, R151). -/

namespace Sys2Proof.Machine

/-- `@value` (R150): A takes the zero-extended value, D and RAM stay, no jump; the ALU's output still goes to L and the
memory is read at the new A. -/
def execAtValue (v : Addr) (s : State) : Host.Outcome State Fault Refusal :=
  .next (runTick (addressControls v) s)

end Sys2Proof.Machine
end

