-- ==== Sys2Proof/Machine/NamedComps.lean ====
section
/-! DEFINITION. The meanings of the 28 compute instructions with a comp mnemonic (40_alu.md R100 to R127). Each is one tick of the shared datapath (43_compute_instruction.md R160) with that row's second
operand and its control bits `zx nx zy ny f no`; the dest and jump fields act alike in all of them (R180 to R197). -/

namespace Sys2Proof.Machine

/-- `0` (R100): out = `0`. -/
def execZero (d : Dest) (j : Jump) (s : State) : Host.Outcome State Fault Refusal :=
  computeTick .regA 0b101010#6 d j s

/-- `1` (R101): out = `1`. -/
def execOne (d : Dest) (j : Jump) (s : State) : Host.Outcome State Fault Refusal :=
  computeTick .regA 0b111111#6 d j s

/-- `-1` (R102): out = `-1`. -/
def execNegOne (d : Dest) (j : Jump) (s : State) : Host.Outcome State Fault Refusal :=
  computeTick .regA 0b111010#6 d j s

/-- `D` (R103): out = `D`. -/
def execCompD (d : Dest) (j : Jump) (s : State) : Host.Outcome State Fault Refusal :=
  computeTick .regA 0b001100#6 d j s

/-- `A` (R104): out = `A`. -/
def execCompA (d : Dest) (j : Jump) (s : State) : Host.Outcome State Fault Refusal :=
  computeTick .regA 0b110000#6 d j s

/-- `M` (R105): out = `M`. -/
def execCompM (d : Dest) (j : Jump) (s : State) : Host.Outcome State Fault Refusal :=
  computeTick .memIn 0b110000#6 d j s

/-- `!D` (R106): out = `~D`. -/
def execNotD (d : Dest) (j : Jump) (s : State) : Host.Outcome State Fault Refusal :=
  computeTick .regA 0b001101#6 d j s

/-- `!A` (R107): out = `~A`. -/
def execNotA (d : Dest) (j : Jump) (s : State) : Host.Outcome State Fault Refusal :=
  computeTick .regA 0b110001#6 d j s

/-- `!M` (R108): out = `~M`. -/
def execNotM (d : Dest) (j : Jump) (s : State) : Host.Outcome State Fault Refusal :=
  computeTick .memIn 0b110001#6 d j s

/-- `-D` (R109): out = `-D`. -/
def execNegD (d : Dest) (j : Jump) (s : State) : Host.Outcome State Fault Refusal :=
  computeTick .regA 0b001111#6 d j s

/-- `-A` (R110): out = `-A`. -/
def execNegA (d : Dest) (j : Jump) (s : State) : Host.Outcome State Fault Refusal :=
  computeTick .regA 0b110011#6 d j s

/-- `-M` (R111): out = `-M`. -/
def execNegM (d : Dest) (j : Jump) (s : State) : Host.Outcome State Fault Refusal :=
  computeTick .memIn 0b110011#6 d j s

/-- `D+1` (R112): out = `D+1`. -/
def execDPlusOne (d : Dest) (j : Jump) (s : State) : Host.Outcome State Fault Refusal :=
  computeTick .regA 0b011111#6 d j s

/-- `A+1` (R113): out = `A+1`. -/
def execAPlusOne (d : Dest) (j : Jump) (s : State) : Host.Outcome State Fault Refusal :=
  computeTick .regA 0b110111#6 d j s

/-- `M+1` (R114): out = `M+1`. -/
def execMPlusOne (d : Dest) (j : Jump) (s : State) : Host.Outcome State Fault Refusal :=
  computeTick .memIn 0b110111#6 d j s

/-- `D-1` (R115): out = `D-1`. -/
def execDMinusOne (d : Dest) (j : Jump) (s : State) : Host.Outcome State Fault Refusal :=
  computeTick .regA 0b001110#6 d j s

/-- `A-1` (R116): out = `A-1`. -/
def execAMinusOne (d : Dest) (j : Jump) (s : State) : Host.Outcome State Fault Refusal :=
  computeTick .regA 0b110010#6 d j s

/-- `M-1` (R117): out = `M-1`. -/
def execMMinusOne (d : Dest) (j : Jump) (s : State) : Host.Outcome State Fault Refusal :=
  computeTick .memIn 0b110010#6 d j s

/-- `D+A` (R118): out = `D+A`. -/
def execDPlusA (d : Dest) (j : Jump) (s : State) : Host.Outcome State Fault Refusal :=
  computeTick .regA 0b000010#6 d j s

/-- `D+M` (R119): out = `D+M`. -/
def execDPlusM (d : Dest) (j : Jump) (s : State) : Host.Outcome State Fault Refusal :=
  computeTick .memIn 0b000010#6 d j s

/-- `D-A` (R120): out = `D-A`. -/
def execDMinusA (d : Dest) (j : Jump) (s : State) : Host.Outcome State Fault Refusal :=
  computeTick .regA 0b010011#6 d j s

/-- `D-M` (R121): out = `D-M`. -/
def execDMinusM (d : Dest) (j : Jump) (s : State) : Host.Outcome State Fault Refusal :=
  computeTick .memIn 0b010011#6 d j s

/-- `A-D` (R122): out = `A-D`. -/
def execAMinusD (d : Dest) (j : Jump) (s : State) : Host.Outcome State Fault Refusal :=
  computeTick .regA 0b000111#6 d j s

/-- `M-D` (R123): out = `M-D`. -/
def execMMinusD (d : Dest) (j : Jump) (s : State) : Host.Outcome State Fault Refusal :=
  computeTick .memIn 0b000111#6 d j s

/-- `D&A` (R124): out = `D&A`. -/
def execDAndA (d : Dest) (j : Jump) (s : State) : Host.Outcome State Fault Refusal :=
  computeTick .regA 0b000000#6 d j s

/-- `D&M` (R125): out = `D&M`. -/
def execDAndM (d : Dest) (j : Jump) (s : State) : Host.Outcome State Fault Refusal :=
  computeTick .memIn 0b000000#6 d j s

/-- `D|A` (R126): out = `D|A`. -/
def execDOrA (d : Dest) (j : Jump) (s : State) : Host.Outcome State Fault Refusal :=
  computeTick .regA 0b010101#6 d j s

/-- `D|M` (R127): out = `D|M`. -/
def execDOrM (d : Dest) (j : Jump) (s : State) : Host.Outcome State Fault Refusal :=
  computeTick .memIn 0b010101#6 d j s

end Sys2Proof.Machine
end

