-- ==== Sys2Proof/Machine/UnnamedCompsA.lean ====
section
/-! DEFINITION. The meanings of the 46 compute instructions without a comp mnemonic whose second operand is `A'` (40_alu.md R129, `a = 0`). Each is one tick of the shared datapath (43_compute_instruction.md R160) with that row's second
operand and its control bits `zx nx zy ny f no`; the dest and jump fields act alike in all of them (R180 to R197). -/

namespace Sys2Proof.Machine

/-- `comp#0000001` (R129): out = `~D|~A`. -/
def execComp0000001 (d : Dest) (j : Jump) (s : State) : Host.Outcome State Fault Refusal :=
  computeTick .regA 0b000001#6 d j s

/-- `comp#0000011` (R129): out = `-D-A-1`. -/
def execComp0000011 (d : Dest) (j : Jump) (s : State) : Host.Outcome State Fault Refusal :=
  computeTick .regA 0b000011#6 d j s

/-- `comp#0000100` (R129): out = `D&~A`. -/
def execComp0000100 (d : Dest) (j : Jump) (s : State) : Host.Outcome State Fault Refusal :=
  computeTick .regA 0b000100#6 d j s

/-- `comp#0000101` (R129): out = `~D|A`. -/
def execComp0000101 (d : Dest) (j : Jump) (s : State) : Host.Outcome State Fault Refusal :=
  computeTick .regA 0b000101#6 d j s

/-- `comp#0000110` (R129): out = `D-A-1`. -/
def execComp0000110 (d : Dest) (j : Jump) (s : State) : Host.Outcome State Fault Refusal :=
  computeTick .regA 0b000110#6 d j s

/-- `comp#0001000` (R129): out = `0`. -/
def execComp0001000 (d : Dest) (j : Jump) (s : State) : Host.Outcome State Fault Refusal :=
  computeTick .regA 0b001000#6 d j s

/-- `comp#0001001` (R129): out = `-1`. -/
def execComp0001001 (d : Dest) (j : Jump) (s : State) : Host.Outcome State Fault Refusal :=
  computeTick .regA 0b001001#6 d j s

/-- `comp#0001010` (R129): out = `D`. -/
def execComp0001010 (d : Dest) (j : Jump) (s : State) : Host.Outcome State Fault Refusal :=
  computeTick .regA 0b001010#6 d j s

/-- `comp#0001011` (R129): out = `-D-1`. -/
def execComp0001011 (d : Dest) (j : Jump) (s : State) : Host.Outcome State Fault Refusal :=
  computeTick .regA 0b001011#6 d j s

/-- `comp#0010000` (R129): out = `~D&A`. -/
def execComp0010000 (d : Dest) (j : Jump) (s : State) : Host.Outcome State Fault Refusal :=
  computeTick .regA 0b010000#6 d j s

/-- `comp#0010001` (R129): out = `D|~A`. -/
def execComp0010001 (d : Dest) (j : Jump) (s : State) : Host.Outcome State Fault Refusal :=
  computeTick .regA 0b010001#6 d j s

/-- `comp#0010010` (R129): out = `A-D-1`. -/
def execComp0010010 (d : Dest) (j : Jump) (s : State) : Host.Outcome State Fault Refusal :=
  computeTick .regA 0b010010#6 d j s

/-- `comp#0010100` (R129): out = `~D&~A`. -/
def execComp0010100 (d : Dest) (j : Jump) (s : State) : Host.Outcome State Fault Refusal :=
  computeTick .regA 0b010100#6 d j s

/-- `comp#0010110` (R129): out = `-D-A-2`. -/
def execComp0010110 (d : Dest) (j : Jump) (s : State) : Host.Outcome State Fault Refusal :=
  computeTick .regA 0b010110#6 d j s

/-- `comp#0010111` (R129): out = `D+A+1`. -/
def execComp0010111 (d : Dest) (j : Jump) (s : State) : Host.Outcome State Fault Refusal :=
  computeTick .regA 0b010111#6 d j s

/-- `comp#0011000` (R129): out = `0`. -/
def execComp0011000 (d : Dest) (j : Jump) (s : State) : Host.Outcome State Fault Refusal :=
  computeTick .regA 0b011000#6 d j s

/-- `comp#0011001` (R129): out = `-1`. -/
def execComp0011001 (d : Dest) (j : Jump) (s : State) : Host.Outcome State Fault Refusal :=
  computeTick .regA 0b011001#6 d j s

/-- `comp#0011010` (R129): out = `-D-1`. -/
def execComp0011010 (d : Dest) (j : Jump) (s : State) : Host.Outcome State Fault Refusal :=
  computeTick .regA 0b011010#6 d j s

/-- `comp#0011011` (R129): out = `D`. -/
def execComp0011011 (d : Dest) (j : Jump) (s : State) : Host.Outcome State Fault Refusal :=
  computeTick .regA 0b011011#6 d j s

/-- `comp#0011100` (R129): out = `~D`. -/
def execComp0011100 (d : Dest) (j : Jump) (s : State) : Host.Outcome State Fault Refusal :=
  computeTick .regA 0b011100#6 d j s

/-- `comp#0011101` (R129): out = `D`. -/
def execComp0011101 (d : Dest) (j : Jump) (s : State) : Host.Outcome State Fault Refusal :=
  computeTick .regA 0b011101#6 d j s

/-- `comp#0011110` (R129): out = `-D-2`. -/
def execComp0011110 (d : Dest) (j : Jump) (s : State) : Host.Outcome State Fault Refusal :=
  computeTick .regA 0b011110#6 d j s

/-- `comp#0100000` (R129): out = `0`. -/
def execComp0100000 (d : Dest) (j : Jump) (s : State) : Host.Outcome State Fault Refusal :=
  computeTick .regA 0b100000#6 d j s

/-- `comp#0100001` (R129): out = `-1`. -/
def execComp0100001 (d : Dest) (j : Jump) (s : State) : Host.Outcome State Fault Refusal :=
  computeTick .regA 0b100001#6 d j s

/-- `comp#0100010` (R129): out = `A`. -/
def execComp0100010 (d : Dest) (j : Jump) (s : State) : Host.Outcome State Fault Refusal :=
  computeTick .regA 0b100010#6 d j s

/-- `comp#0100011` (R129): out = `-A-1`. -/
def execComp0100011 (d : Dest) (j : Jump) (s : State) : Host.Outcome State Fault Refusal :=
  computeTick .regA 0b100011#6 d j s

/-- `comp#0100100` (R129): out = `0`. -/
def execComp0100100 (d : Dest) (j : Jump) (s : State) : Host.Outcome State Fault Refusal :=
  computeTick .regA 0b100100#6 d j s

/-- `comp#0100101` (R129): out = `-1`. -/
def execComp0100101 (d : Dest) (j : Jump) (s : State) : Host.Outcome State Fault Refusal :=
  computeTick .regA 0b100101#6 d j s

/-- `comp#0100110` (R129): out = `-A-1`. -/
def execComp0100110 (d : Dest) (j : Jump) (s : State) : Host.Outcome State Fault Refusal :=
  computeTick .regA 0b100110#6 d j s

/-- `comp#0100111` (R129): out = `A`. -/
def execComp0100111 (d : Dest) (j : Jump) (s : State) : Host.Outcome State Fault Refusal :=
  computeTick .regA 0b100111#6 d j s

/-- `comp#0101000` (R129): out = `0`. -/
def execComp0101000 (d : Dest) (j : Jump) (s : State) : Host.Outcome State Fault Refusal :=
  computeTick .regA 0b101000#6 d j s

/-- `comp#0101001` (R129): out = `-1`. -/
def execComp0101001 (d : Dest) (j : Jump) (s : State) : Host.Outcome State Fault Refusal :=
  computeTick .regA 0b101001#6 d j s

/-- `comp#0101011` (R129): out = `-1`. -/
def execComp0101011 (d : Dest) (j : Jump) (s : State) : Host.Outcome State Fault Refusal :=
  computeTick .regA 0b101011#6 d j s

/-- `comp#0101100` (R129): out = `0`. -/
def execComp0101100 (d : Dest) (j : Jump) (s : State) : Host.Outcome State Fault Refusal :=
  computeTick .regA 0b101100#6 d j s

/-- `comp#0101101` (R129): out = `-1`. -/
def execComp0101101 (d : Dest) (j : Jump) (s : State) : Host.Outcome State Fault Refusal :=
  computeTick .regA 0b101101#6 d j s

/-- `comp#0101110` (R129): out = `-1`. -/
def execComp0101110 (d : Dest) (j : Jump) (s : State) : Host.Outcome State Fault Refusal :=
  computeTick .regA 0b101110#6 d j s

/-- `comp#0101111` (R129): out = `0`. -/
def execComp0101111 (d : Dest) (j : Jump) (s : State) : Host.Outcome State Fault Refusal :=
  computeTick .regA 0b101111#6 d j s

/-- `comp#0110100` (R129): out = `~A`. -/
def execComp0110100 (d : Dest) (j : Jump) (s : State) : Host.Outcome State Fault Refusal :=
  computeTick .regA 0b110100#6 d j s

/-- `comp#0110101` (R129): out = `A`. -/
def execComp0110101 (d : Dest) (j : Jump) (s : State) : Host.Outcome State Fault Refusal :=
  computeTick .regA 0b110101#6 d j s

/-- `comp#0110110` (R129): out = `-A-2`. -/
def execComp0110110 (d : Dest) (j : Jump) (s : State) : Host.Outcome State Fault Refusal :=
  computeTick .regA 0b110110#6 d j s

/-- `comp#0111000` (R129): out = `0`. -/
def execComp0111000 (d : Dest) (j : Jump) (s : State) : Host.Outcome State Fault Refusal :=
  computeTick .regA 0b111000#6 d j s

/-- `comp#0111001` (R129): out = `-1`. -/
def execComp0111001 (d : Dest) (j : Jump) (s : State) : Host.Outcome State Fault Refusal :=
  computeTick .regA 0b111001#6 d j s

/-- `comp#0111011` (R129): out = `0`. -/
def execComp0111011 (d : Dest) (j : Jump) (s : State) : Host.Outcome State Fault Refusal :=
  computeTick .regA 0b111011#6 d j s

/-- `comp#0111100` (R129): out = `-1`. -/
def execComp0111100 (d : Dest) (j : Jump) (s : State) : Host.Outcome State Fault Refusal :=
  computeTick .regA 0b111100#6 d j s

/-- `comp#0111101` (R129): out = `0`. -/
def execComp0111101 (d : Dest) (j : Jump) (s : State) : Host.Outcome State Fault Refusal :=
  computeTick .regA 0b111101#6 d j s

/-- `comp#0111110` (R129): out = `-2`. -/
def execComp0111110 (d : Dest) (j : Jump) (s : State) : Host.Outcome State Fault Refusal :=
  computeTick .regA 0b111110#6 d j s

end Sys2Proof.Machine
end

