-- ==== Sys2Proof/Machine/UnnamedCompsM.lean ====
section
/-! DEFINITION. The meanings of the 54 compute instructions without a comp mnemonic whose second operand is the memory input (40_alu.md R129, `a = 1`). Each is one tick of the shared datapath (43_compute_instruction.md R160) with that row's second
operand and its control bits `zx nx zy ny f no`; the dest and jump fields act alike in all of them (R180 to R197). -/

namespace Sys2Proof.Machine

/-- `comp#1000001` (R129): out = `~D|~M`. -/
def execComp1000001 (d : Dest) (j : Jump) (s : State) : Host.Outcome State Fault Refusal :=
  computeTick .memIn 0b000001#6 d j s

/-- `comp#1000011` (R129): out = `-D-M-1`. -/
def execComp1000011 (d : Dest) (j : Jump) (s : State) : Host.Outcome State Fault Refusal :=
  computeTick .memIn 0b000011#6 d j s

/-- `comp#1000100` (R129): out = `D&~M`. -/
def execComp1000100 (d : Dest) (j : Jump) (s : State) : Host.Outcome State Fault Refusal :=
  computeTick .memIn 0b000100#6 d j s

/-- `comp#1000101` (R129): out = `~D|M`. -/
def execComp1000101 (d : Dest) (j : Jump) (s : State) : Host.Outcome State Fault Refusal :=
  computeTick .memIn 0b000101#6 d j s

/-- `comp#1000110` (R129): out = `D-M-1`. -/
def execComp1000110 (d : Dest) (j : Jump) (s : State) : Host.Outcome State Fault Refusal :=
  computeTick .memIn 0b000110#6 d j s

/-- `comp#1001000` (R129): out = `0`. -/
def execComp1001000 (d : Dest) (j : Jump) (s : State) : Host.Outcome State Fault Refusal :=
  computeTick .memIn 0b001000#6 d j s

/-- `comp#1001001` (R129): out = `-1`. -/
def execComp1001001 (d : Dest) (j : Jump) (s : State) : Host.Outcome State Fault Refusal :=
  computeTick .memIn 0b001001#6 d j s

/-- `comp#1001010` (R129): out = `D`. -/
def execComp1001010 (d : Dest) (j : Jump) (s : State) : Host.Outcome State Fault Refusal :=
  computeTick .memIn 0b001010#6 d j s

/-- `comp#1001011` (R129): out = `-D-1`. -/
def execComp1001011 (d : Dest) (j : Jump) (s : State) : Host.Outcome State Fault Refusal :=
  computeTick .memIn 0b001011#6 d j s

/-- `comp#1001100` (R129): out = `D`. -/
def execComp1001100 (d : Dest) (j : Jump) (s : State) : Host.Outcome State Fault Refusal :=
  computeTick .memIn 0b001100#6 d j s

/-- `comp#1001101` (R129): out = `~D`. -/
def execComp1001101 (d : Dest) (j : Jump) (s : State) : Host.Outcome State Fault Refusal :=
  computeTick .memIn 0b001101#6 d j s

/-- `comp#1001110` (R129): out = `D-1`. -/
def execComp1001110 (d : Dest) (j : Jump) (s : State) : Host.Outcome State Fault Refusal :=
  computeTick .memIn 0b001110#6 d j s

/-- `comp#1001111` (R129): out = `-D`. -/
def execComp1001111 (d : Dest) (j : Jump) (s : State) : Host.Outcome State Fault Refusal :=
  computeTick .memIn 0b001111#6 d j s

/-- `comp#1010000` (R129): out = `~D&M`. -/
def execComp1010000 (d : Dest) (j : Jump) (s : State) : Host.Outcome State Fault Refusal :=
  computeTick .memIn 0b010000#6 d j s

/-- `comp#1010001` (R129): out = `D|~M`. -/
def execComp1010001 (d : Dest) (j : Jump) (s : State) : Host.Outcome State Fault Refusal :=
  computeTick .memIn 0b010001#6 d j s

/-- `comp#1010010` (R129): out = `M-D-1`. -/
def execComp1010010 (d : Dest) (j : Jump) (s : State) : Host.Outcome State Fault Refusal :=
  computeTick .memIn 0b010010#6 d j s

/-- `comp#1010100` (R129): out = `~D&~M`. -/
def execComp1010100 (d : Dest) (j : Jump) (s : State) : Host.Outcome State Fault Refusal :=
  computeTick .memIn 0b010100#6 d j s

/-- `comp#1010110` (R129): out = `-D-M-2`. -/
def execComp1010110 (d : Dest) (j : Jump) (s : State) : Host.Outcome State Fault Refusal :=
  computeTick .memIn 0b010110#6 d j s

/-- `comp#1010111` (R129): out = `D+M+1`. -/
def execComp1010111 (d : Dest) (j : Jump) (s : State) : Host.Outcome State Fault Refusal :=
  computeTick .memIn 0b010111#6 d j s

/-- `comp#1011000` (R129): out = `0`. -/
def execComp1011000 (d : Dest) (j : Jump) (s : State) : Host.Outcome State Fault Refusal :=
  computeTick .memIn 0b011000#6 d j s

/-- `comp#1011001` (R129): out = `-1`. -/
def execComp1011001 (d : Dest) (j : Jump) (s : State) : Host.Outcome State Fault Refusal :=
  computeTick .memIn 0b011001#6 d j s

/-- `comp#1011010` (R129): out = `-D-1`. -/
def execComp1011010 (d : Dest) (j : Jump) (s : State) : Host.Outcome State Fault Refusal :=
  computeTick .memIn 0b011010#6 d j s

/-- `comp#1011011` (R129): out = `D`. -/
def execComp1011011 (d : Dest) (j : Jump) (s : State) : Host.Outcome State Fault Refusal :=
  computeTick .memIn 0b011011#6 d j s

/-- `comp#1011100` (R129): out = `~D`. -/
def execComp1011100 (d : Dest) (j : Jump) (s : State) : Host.Outcome State Fault Refusal :=
  computeTick .memIn 0b011100#6 d j s

/-- `comp#1011101` (R129): out = `D`. -/
def execComp1011101 (d : Dest) (j : Jump) (s : State) : Host.Outcome State Fault Refusal :=
  computeTick .memIn 0b011101#6 d j s

/-- `comp#1011110` (R129): out = `-D-2`. -/
def execComp1011110 (d : Dest) (j : Jump) (s : State) : Host.Outcome State Fault Refusal :=
  computeTick .memIn 0b011110#6 d j s

/-- `comp#1011111` (R129): out = `D+1`. -/
def execComp1011111 (d : Dest) (j : Jump) (s : State) : Host.Outcome State Fault Refusal :=
  computeTick .memIn 0b011111#6 d j s

/-- `comp#1100000` (R129): out = `0`. -/
def execComp1100000 (d : Dest) (j : Jump) (s : State) : Host.Outcome State Fault Refusal :=
  computeTick .memIn 0b100000#6 d j s

/-- `comp#1100001` (R129): out = `-1`. -/
def execComp1100001 (d : Dest) (j : Jump) (s : State) : Host.Outcome State Fault Refusal :=
  computeTick .memIn 0b100001#6 d j s

/-- `comp#1100010` (R129): out = `M`. -/
def execComp1100010 (d : Dest) (j : Jump) (s : State) : Host.Outcome State Fault Refusal :=
  computeTick .memIn 0b100010#6 d j s

/-- `comp#1100011` (R129): out = `-M-1`. -/
def execComp1100011 (d : Dest) (j : Jump) (s : State) : Host.Outcome State Fault Refusal :=
  computeTick .memIn 0b100011#6 d j s

/-- `comp#1100100` (R129): out = `0`. -/
def execComp1100100 (d : Dest) (j : Jump) (s : State) : Host.Outcome State Fault Refusal :=
  computeTick .memIn 0b100100#6 d j s

/-- `comp#1100101` (R129): out = `-1`. -/
def execComp1100101 (d : Dest) (j : Jump) (s : State) : Host.Outcome State Fault Refusal :=
  computeTick .memIn 0b100101#6 d j s

/-- `comp#1100110` (R129): out = `-M-1`. -/
def execComp1100110 (d : Dest) (j : Jump) (s : State) : Host.Outcome State Fault Refusal :=
  computeTick .memIn 0b100110#6 d j s

/-- `comp#1100111` (R129): out = `M`. -/
def execComp1100111 (d : Dest) (j : Jump) (s : State) : Host.Outcome State Fault Refusal :=
  computeTick .memIn 0b100111#6 d j s

/-- `comp#1101000` (R129): out = `0`. -/
def execComp1101000 (d : Dest) (j : Jump) (s : State) : Host.Outcome State Fault Refusal :=
  computeTick .memIn 0b101000#6 d j s

/-- `comp#1101001` (R129): out = `-1`. -/
def execComp1101001 (d : Dest) (j : Jump) (s : State) : Host.Outcome State Fault Refusal :=
  computeTick .memIn 0b101001#6 d j s

/-- `comp#1101010` (R129): out = `0`. -/
def execComp1101010 (d : Dest) (j : Jump) (s : State) : Host.Outcome State Fault Refusal :=
  computeTick .memIn 0b101010#6 d j s

/-- `comp#1101011` (R129): out = `-1`. -/
def execComp1101011 (d : Dest) (j : Jump) (s : State) : Host.Outcome State Fault Refusal :=
  computeTick .memIn 0b101011#6 d j s

/-- `comp#1101100` (R129): out = `0`. -/
def execComp1101100 (d : Dest) (j : Jump) (s : State) : Host.Outcome State Fault Refusal :=
  computeTick .memIn 0b101100#6 d j s

/-- `comp#1101101` (R129): out = `-1`. -/
def execComp1101101 (d : Dest) (j : Jump) (s : State) : Host.Outcome State Fault Refusal :=
  computeTick .memIn 0b101101#6 d j s

/-- `comp#1101110` (R129): out = `-1`. -/
def execComp1101110 (d : Dest) (j : Jump) (s : State) : Host.Outcome State Fault Refusal :=
  computeTick .memIn 0b101110#6 d j s

/-- `comp#1101111` (R129): out = `0`. -/
def execComp1101111 (d : Dest) (j : Jump) (s : State) : Host.Outcome State Fault Refusal :=
  computeTick .memIn 0b101111#6 d j s

/-- `comp#1110100` (R129): out = `~M`. -/
def execComp1110100 (d : Dest) (j : Jump) (s : State) : Host.Outcome State Fault Refusal :=
  computeTick .memIn 0b110100#6 d j s

/-- `comp#1110101` (R129): out = `M`. -/
def execComp1110101 (d : Dest) (j : Jump) (s : State) : Host.Outcome State Fault Refusal :=
  computeTick .memIn 0b110101#6 d j s

/-- `comp#1110110` (R129): out = `-M-2`. -/
def execComp1110110 (d : Dest) (j : Jump) (s : State) : Host.Outcome State Fault Refusal :=
  computeTick .memIn 0b110110#6 d j s

/-- `comp#1111000` (R129): out = `0`. -/
def execComp1111000 (d : Dest) (j : Jump) (s : State) : Host.Outcome State Fault Refusal :=
  computeTick .memIn 0b111000#6 d j s

/-- `comp#1111001` (R129): out = `-1`. -/
def execComp1111001 (d : Dest) (j : Jump) (s : State) : Host.Outcome State Fault Refusal :=
  computeTick .memIn 0b111001#6 d j s

/-- `comp#1111010` (R129): out = `-1`. -/
def execComp1111010 (d : Dest) (j : Jump) (s : State) : Host.Outcome State Fault Refusal :=
  computeTick .memIn 0b111010#6 d j s

/-- `comp#1111011` (R129): out = `0`. -/
def execComp1111011 (d : Dest) (j : Jump) (s : State) : Host.Outcome State Fault Refusal :=
  computeTick .memIn 0b111011#6 d j s

/-- `comp#1111100` (R129): out = `-1`. -/
def execComp1111100 (d : Dest) (j : Jump) (s : State) : Host.Outcome State Fault Refusal :=
  computeTick .memIn 0b111100#6 d j s

/-- `comp#1111101` (R129): out = `0`. -/
def execComp1111101 (d : Dest) (j : Jump) (s : State) : Host.Outcome State Fault Refusal :=
  computeTick .memIn 0b111101#6 d j s

/-- `comp#1111110` (R129): out = `-2`. -/
def execComp1111110 (d : Dest) (j : Jump) (s : State) : Host.Outcome State Fault Refusal :=
  computeTick .memIn 0b111110#6 d j s

/-- `comp#1111111` (R129): out = `1`. -/
def execComp1111111 (d : Dest) (j : Jump) (s : State) : Host.Outcome State Fault Refusal :=
  computeTick .memIn 0b111111#6 d j s

end Sys2Proof.Machine
end

