-- ==== Sys2Proof/Machine/Dispatch.lean ====
section
/-! DEFINITION. exec: one arm per constructor of Instr, each a call of its own meaning. -/

namespace Sys2Proof.Machine

def exec (i : Instr) (s : State) : Host.Outcome State Fault Refusal :=
  match i with
  | .atValue v => Sys2Proof.Machine.execAtValue v s
  | .zero d j => Sys2Proof.Machine.execZero d j s
  | .one d j => Sys2Proof.Machine.execOne d j s
  | .negOne d j => Sys2Proof.Machine.execNegOne d j s
  | .compD d j => Sys2Proof.Machine.execCompD d j s
  | .compA d j => Sys2Proof.Machine.execCompA d j s
  | .compM d j => Sys2Proof.Machine.execCompM d j s
  | .notD d j => Sys2Proof.Machine.execNotD d j s
  | .notA d j => Sys2Proof.Machine.execNotA d j s
  | .notM d j => Sys2Proof.Machine.execNotM d j s
  | .negD d j => Sys2Proof.Machine.execNegD d j s
  | .negA d j => Sys2Proof.Machine.execNegA d j s
  | .negM d j => Sys2Proof.Machine.execNegM d j s
  | .dPlusOne d j => Sys2Proof.Machine.execDPlusOne d j s
  | .aPlusOne d j => Sys2Proof.Machine.execAPlusOne d j s
  | .mPlusOne d j => Sys2Proof.Machine.execMPlusOne d j s
  | .dMinusOne d j => Sys2Proof.Machine.execDMinusOne d j s
  | .aMinusOne d j => Sys2Proof.Machine.execAMinusOne d j s
  | .mMinusOne d j => Sys2Proof.Machine.execMMinusOne d j s
  | .dPlusA d j => Sys2Proof.Machine.execDPlusA d j s
  | .dPlusM d j => Sys2Proof.Machine.execDPlusM d j s
  | .dMinusA d j => Sys2Proof.Machine.execDMinusA d j s
  | .dMinusM d j => Sys2Proof.Machine.execDMinusM d j s
  | .aMinusD d j => Sys2Proof.Machine.execAMinusD d j s
  | .mMinusD d j => Sys2Proof.Machine.execMMinusD d j s
  | .dAndA d j => Sys2Proof.Machine.execDAndA d j s
  | .dAndM d j => Sys2Proof.Machine.execDAndM d j s
  | .dOrA d j => Sys2Proof.Machine.execDOrA d j s
  | .dOrM d j => Sys2Proof.Machine.execDOrM d j s
  | .comp0000001 d j => Sys2Proof.Machine.execComp0000001 d j s
  | .comp0000011 d j => Sys2Proof.Machine.execComp0000011 d j s
  | .comp0000100 d j => Sys2Proof.Machine.execComp0000100 d j s
  | .comp0000101 d j => Sys2Proof.Machine.execComp0000101 d j s
  | .comp0000110 d j => Sys2Proof.Machine.execComp0000110 d j s
  | .comp0001000 d j => Sys2Proof.Machine.execComp0001000 d j s
  | .comp0001001 d j => Sys2Proof.Machine.execComp0001001 d j s
  | .comp0001010 d j => Sys2Proof.Machine.execComp0001010 d j s
  | .comp0001011 d j => Sys2Proof.Machine.execComp0001011 d j s
  | .comp0010000 d j => Sys2Proof.Machine.execComp0010000 d j s
  | .comp0010001 d j => Sys2Proof.Machine.execComp0010001 d j s
  | .comp0010010 d j => Sys2Proof.Machine.execComp0010010 d j s
  | .comp0010100 d j => Sys2Proof.Machine.execComp0010100 d j s
  | .comp0010110 d j => Sys2Proof.Machine.execComp0010110 d j s
  | .comp0010111 d j => Sys2Proof.Machine.execComp0010111 d j s
  | .comp0011000 d j => Sys2Proof.Machine.execComp0011000 d j s
  | .comp0011001 d j => Sys2Proof.Machine.execComp0011001 d j s
  | .comp0011010 d j => Sys2Proof.Machine.execComp0011010 d j s
  | .comp0011011 d j => Sys2Proof.Machine.execComp0011011 d j s
  | .comp0011100 d j => Sys2Proof.Machine.execComp0011100 d j s
  | .comp0011101 d j => Sys2Proof.Machine.execComp0011101 d j s
  | .comp0011110 d j => Sys2Proof.Machine.execComp0011110 d j s
  | .comp0100000 d j => Sys2Proof.Machine.execComp0100000 d j s
  | .comp0100001 d j => Sys2Proof.Machine.execComp0100001 d j s
  | .comp0100010 d j => Sys2Proof.Machine.execComp0100010 d j s
  | .comp0100011 d j => Sys2Proof.Machine.execComp0100011 d j s
  | .comp0100100 d j => Sys2Proof.Machine.execComp0100100 d j s
  | .comp0100101 d j => Sys2Proof.Machine.execComp0100101 d j s
  | .comp0100110 d j => Sys2Proof.Machine.execComp0100110 d j s
  | .comp0100111 d j => Sys2Proof.Machine.execComp0100111 d j s
  | .comp0101000 d j => Sys2Proof.Machine.execComp0101000 d j s
  | .comp0101001 d j => Sys2Proof.Machine.execComp0101001 d j s
  | .comp0101011 d j => Sys2Proof.Machine.execComp0101011 d j s
  | .comp0101100 d j => Sys2Proof.Machine.execComp0101100 d j s
  | .comp0101101 d j => Sys2Proof.Machine.execComp0101101 d j s
  | .comp0101110 d j => Sys2Proof.Machine.execComp0101110 d j s
  | .comp0101111 d j => Sys2Proof.Machine.execComp0101111 d j s
  | .comp0110100 d j => Sys2Proof.Machine.execComp0110100 d j s
  | .comp0110101 d j => Sys2Proof.Machine.execComp0110101 d j s
  | .comp0110110 d j => Sys2Proof.Machine.execComp0110110 d j s
  | .comp0111000 d j => Sys2Proof.Machine.execComp0111000 d j s
  | .comp0111001 d j => Sys2Proof.Machine.execComp0111001 d j s
  | .comp0111011 d j => Sys2Proof.Machine.execComp0111011 d j s
  | .comp0111100 d j => Sys2Proof.Machine.execComp0111100 d j s
  | .comp0111101 d j => Sys2Proof.Machine.execComp0111101 d j s
  | .comp0111110 d j => Sys2Proof.Machine.execComp0111110 d j s
  | .comp1000001 d j => Sys2Proof.Machine.execComp1000001 d j s
  | .comp1000011 d j => Sys2Proof.Machine.execComp1000011 d j s
  | .comp1000100 d j => Sys2Proof.Machine.execComp1000100 d j s
  | .comp1000101 d j => Sys2Proof.Machine.execComp1000101 d j s
  | .comp1000110 d j => Sys2Proof.Machine.execComp1000110 d j s
  | .comp1001000 d j => Sys2Proof.Machine.execComp1001000 d j s
  | .comp1001001 d j => Sys2Proof.Machine.execComp1001001 d j s
  | .comp1001010 d j => Sys2Proof.Machine.execComp1001010 d j s
  | .comp1001011 d j => Sys2Proof.Machine.execComp1001011 d j s
  | .comp1001100 d j => Sys2Proof.Machine.execComp1001100 d j s
  | .comp1001101 d j => Sys2Proof.Machine.execComp1001101 d j s
  | .comp1001110 d j => Sys2Proof.Machine.execComp1001110 d j s
  | .comp1001111 d j => Sys2Proof.Machine.execComp1001111 d j s
  | .comp1010000 d j => Sys2Proof.Machine.execComp1010000 d j s
  | .comp1010001 d j => Sys2Proof.Machine.execComp1010001 d j s
  | .comp1010010 d j => Sys2Proof.Machine.execComp1010010 d j s
  | .comp1010100 d j => Sys2Proof.Machine.execComp1010100 d j s
  | .comp1010110 d j => Sys2Proof.Machine.execComp1010110 d j s
  | .comp1010111 d j => Sys2Proof.Machine.execComp1010111 d j s
  | .comp1011000 d j => Sys2Proof.Machine.execComp1011000 d j s
  | .comp1011001 d j => Sys2Proof.Machine.execComp1011001 d j s
  | .comp1011010 d j => Sys2Proof.Machine.execComp1011010 d j s
  | .comp1011011 d j => Sys2Proof.Machine.execComp1011011 d j s
  | .comp1011100 d j => Sys2Proof.Machine.execComp1011100 d j s
  | .comp1011101 d j => Sys2Proof.Machine.execComp1011101 d j s
  | .comp1011110 d j => Sys2Proof.Machine.execComp1011110 d j s
  | .comp1011111 d j => Sys2Proof.Machine.execComp1011111 d j s
  | .comp1100000 d j => Sys2Proof.Machine.execComp1100000 d j s
  | .comp1100001 d j => Sys2Proof.Machine.execComp1100001 d j s
  | .comp1100010 d j => Sys2Proof.Machine.execComp1100010 d j s
  | .comp1100011 d j => Sys2Proof.Machine.execComp1100011 d j s
  | .comp1100100 d j => Sys2Proof.Machine.execComp1100100 d j s
  | .comp1100101 d j => Sys2Proof.Machine.execComp1100101 d j s
  | .comp1100110 d j => Sys2Proof.Machine.execComp1100110 d j s
  | .comp1100111 d j => Sys2Proof.Machine.execComp1100111 d j s
  | .comp1101000 d j => Sys2Proof.Machine.execComp1101000 d j s
  | .comp1101001 d j => Sys2Proof.Machine.execComp1101001 d j s
  | .comp1101010 d j => Sys2Proof.Machine.execComp1101010 d j s
  | .comp1101011 d j => Sys2Proof.Machine.execComp1101011 d j s
  | .comp1101100 d j => Sys2Proof.Machine.execComp1101100 d j s
  | .comp1101101 d j => Sys2Proof.Machine.execComp1101101 d j s
  | .comp1101110 d j => Sys2Proof.Machine.execComp1101110 d j s
  | .comp1101111 d j => Sys2Proof.Machine.execComp1101111 d j s
  | .comp1110100 d j => Sys2Proof.Machine.execComp1110100 d j s
  | .comp1110101 d j => Sys2Proof.Machine.execComp1110101 d j s
  | .comp1110110 d j => Sys2Proof.Machine.execComp1110110 d j s
  | .comp1111000 d j => Sys2Proof.Machine.execComp1111000 d j s
  | .comp1111001 d j => Sys2Proof.Machine.execComp1111001 d j s
  | .comp1111010 d j => Sys2Proof.Machine.execComp1111010 d j s
  | .comp1111011 d j => Sys2Proof.Machine.execComp1111011 d j s
  | .comp1111100 d j => Sys2Proof.Machine.execComp1111100 d j s
  | .comp1111101 d j => Sys2Proof.Machine.execComp1111101 d j s
  | .comp1111110 d j => Sys2Proof.Machine.execComp1111110 d j s
  | .comp1111111 d j => Sys2Proof.Machine.execComp1111111 d j s

end Sys2Proof.Machine
end

