-- ==== Sys2Proof/Machine/Step.lean ====
section
/-! DEFINITION. One step of the machine: fetch, decode, execute; one step is one tick (44_computer.md R205;
70_reset_and_hazards.md R252; notes/assumptions/19.md). -/

namespace Sys2Proof.Machine

/-- The tick: the word at the program counter is decoded and run. The instruction moves the program counter. -/
def step (s : State) : Host.Outcome State Fault Refusal := exec (decode (fetch s)) s

/-- `s` with the word of an instruction stored where step fetches its next instruction, `ROM[low15(PC)]`. It stands
for the preload (44_computer.md R201; notes/assumptions/13.md). -/
def State.withFetchWord (s : State) (nbits w : Nat) : State :=
  s.setRom (s.rom.write (low15 s.pc) (BitVec.ofNat 16 (w % 2 ^ nbits)))

end Sys2Proof.Machine
end

