-- ==== Sys2Proof/WellFormed.lean ====
section
/-! DEFINITION. What makes a program well-formed. An instruction needs no check: every combination of an instruction's
fields is legal (30_encoding.md R65) and the fields' types hold exactly the values their bits can. What can be ill-formed
is the assembler's output that the preload takes (44_computer.md R200, R202). -/

namespace Sys2Proof

/-- One line of the assembler's output, its characters from left to right (44_computer.md R201). -/
abbrev Line := List Char

/-- A line is 16 characters, each `0` or `1` (44_computer.md R202). -/
def Line.wellFormed (l : Line) : Bool := l.length == 16 && l.all (fun c => c == '0' || c == '1')

/-- The program has at most as many lines as the instruction memory has words (44_computer.md R202). -/
def Program.fits (lines : List Line) : Bool := decide (lines.length ≤ Config.memoryWords)

/-- A program the preload accepts: it fits, and every line is well-formed (44_computer.md R202). -/
def Program.wellFormed (lines : List Line) : Bool := Program.fits lines && lines.all Line.wellFormed

end Sys2Proof
end

