-- ==== Sys2Proof/Machine/Preload.lean ====
section
/-! DEFINITION. The preload of the instruction memory, outside the clocked loop (44_computer.md R200 to R202). -/

namespace Sys2Proof.Machine

/-- The word of a line, its first character the most significant bit (44_computer.md R201; 92_eei_decisions.md D7;
notes/assumptions/10.md). -/
def lineWord (l : Line) : Word := BitVec.ofNat 16 (l.foldl (fun n c => 2 * n + (if c = '1' then 1 else 0)) 0)

/-- The instruction memory with the lines written at sequential addresses from `i` on (44_computer.md R201). -/
def loadLines (i : Nat) (m : Memory) : List Line → Memory
  | [] => m
  | l :: ls => loadLines (i + 1) (m.write (BitVec.ofNat 15 i) (lineWord l)) ls

/-- The machine powered on in `p` with a program preloaded at addresses 0, 1, 2, … (44_computer.md R201;
70_reset_and_hazards.md R241). A program that is too long or has a malformed line is refused as a whole (R202;
notes/assumptions/11.md). -/
def preload (p : PowerOn) (lines : List Line) : Host.Outcome State Fault Refusal :=
  if Program.fits lines then
    match lines.findIdx? (fun l => !l.wellFormed) with
    | some i => .refused (.invalidWidth i)
    | none => .next ((State.powerOn p).setRom (loadLines 0 p.rom lines))
  else .refused (.programTooLong lines.length)

end Sys2Proof.Machine
end

