-- ==== Sys2Proof/Machine/Gates.lean ====
section
/-! DEFINITION. The combinational function library at gate level, every function a composition of `nand`
(40_alu.md R80 to R90), and the register as 16 cells (10_state.md R28). The machine uses the word-level functions these
are stated equal to (notes/assumptions/16.md). -/

namespace Sys2Proof.Machine.Gate

/-- The one primitive (R80). -/
def nand (a b : Bool) : Bool := !(a && b)

/-- `not_` (R81). -/
def notG (a : Bool) : Bool := nand a a

/-- `and_` (R81). -/
def andG (a b : Bool) : Bool := notG (nand a b)

/-- `or_` (R81). -/
def orG (a b : Bool) : Bool := nand (notG a) (notG b)

/-- `xor` (R81). -/
def xorG (a b : Bool) : Bool := andG (nand a b) (orG a b)

/-- `mux` (R82): `a` when `sel = 0`, `b` when `sel = 1`. -/
def mux (a b sel : Bool) : Bool := orG (andG a (notG sel)) (andG b sel)

/-- `demux` (R82): the input goes to the first output when `sel = 0`, to the second when `sel = 1`. -/
def demux (inp sel : Bool) : Bool × Bool := (andG inp (notG sel), andG inp sel)

/-- The `n`-bit vector whose bit `p` is `b p`. -/
def ofBits : (n : Nat) → (Nat → Bool) → BitVec n
  | 0, _ => 0#0
  | n + 1, b => BitVec.cons (b n) (ofBits n b)

/-- `and16` (R83), elementwise. -/
def and16 (x y : Word) : Word := ofBits 16 (fun p => andG (x.getLsbD p) (y.getLsbD p))

/-- `or16` (R83), elementwise. -/
def or16 (x y : Word) : Word := ofBits 16 (fun p => orG (x.getLsbD p) (y.getLsbD p))

/-- `not16` (R83), elementwise. -/
def not16 (x : Word) : Word := ofBits 16 (fun p => notG (x.getLsbD p))

/-- `mux16` (R84): one selector for all 16 positions. -/
def mux16 (a b : Word) (sel : Bool) : Word := ofBits 16 (fun p => mux (a.getLsbD p) (b.getLsbD p) sel)

/-- The cascaded OR of the low `n` bits (R85). -/
def orCascade (x : Word) : Nat → Bool
  | 0 => false
  | n + 1 => orG (x.getLsbD n) (orCascade x n)

/-- `iszero16` (R85): cascaded OR, then NOT. -/
def iszero16 (x : Word) : Bool := notG (orCascade x 16)

/-- `half_adder`: sum and carry (R86). -/
def halfAdder (a b : Bool) : Bool × Bool := (xorG a b, andG a b)

/-- `full_adder`: two half adders, the carries ORed (R86). -/
def fullAdder (a b c : Bool) : Bool × Bool :=
  let h1 := halfAdder a b
  let h2 := halfAdder h1.1 c
  (h2.1, orG h1.2 h2.2)

/-- The carry into weight position `p` of the chain of full adders, 0 into position 0 (R87). -/
def carryInto (x y : Word) : Nat → Bool
  | 0 => false
  | p + 1 => (fullAdder (x.getLsbD p) (y.getLsbD p) (carryInto x y p)).2

/-- `add16`: 16 full adders, the last carry discarded (R87). -/
def add16 (x y : Word) : Word := ofBits 16 (fun p => (fullAdder (x.getLsbD p) (y.getLsbD p) (carryInto x y p)).1)

/-- `inc16` (R89). -/
def inc16 (x : Word) : Word := add16 x 1#16

/-- The ALU built of the library: output, `zr`, `ng` (R90, R91). -/
def alu (c : AluCtl) (x y : Word) : Word × Bool × Bool :=
  let x1 := mux16 x 0#16 c.zx
  let x' := mux16 x1 (not16 x1) c.nx
  let y1 := mux16 y 0#16 c.zy
  let y' := mux16 y1 (not16 y1) c.ny
  let r := mux16 (and16 x' y') (add16 x' y') c.f
  let out := mux16 r (not16 r) c.no
  (out, iszero16 out, out.getLsbD 15)

/-- A register of 16 cells that share one load signal (10_state.md R28). -/
def register16 (old inp : Word) (load : Bool) : Word :=
  ofBits 16 (fun p => cellUpdate (old.getLsbD p) (inp.getLsbD p) load)

end Sys2Proof.Machine.Gate
end

