-- ==== Sys2Proof/Machine/Tree.lean ====
section
/-! DEFINITION. The memory as the decode tree the hardware builds (20_memory.md R41, R42): tiers of fan-out 8, each
routing a 3-bit slice of the address by one-hot selects and reducing its children's outputs by multiplexers. The tree is
not observable (R43): State holds the flat memory, and the tree is stated to behave as it (notes/assumptions/4.md). -/

namespace Sys2Proof.Machine

/-- A tier of the tree: a register at the bottom, else 8 children of the tier below (R41, R42). Tier 5 is the
32768-word memory. -/
inductive Tier : Nat → Type where
  /-- A leaf register. -/
  | reg (w : Word) : Tier 0
  /-- A tier over 8 children. -/
  | node {k : Nat} (child : Fin 8 → Tier k) : Tier (k + 1)

/-- The three address bits that tier `k + 1` consumes, `addr[3k+2 : 3k]` (R42). -/
def tierSlice (k : Nat) (addr : Addr) : Bool × Bool × Bool :=
  (addr.getLsbD (3 * k + 2), addr.getLsbD (3 * k + 1), addr.getLsbD (3 * k))

/-- The load signal gated for each of the 8 children: three stages of demultiplexers over the slice, so that at most
one child receives it (R41, R42). -/
def gatedLoad (load : Bool) (b : Bool × Bool × Bool) (i : Fin 8) : Bool :=
  let stage2 := Gate.demux load b.1
  let h := if i.val < 4 then stage2.1 else stage2.2
  let stage1 := Gate.demux h b.2.1
  let g := if i.val % 4 < 2 then stage1.1 else stage1.2
  let stage0 := Gate.demux g b.2.2
  if i.val % 2 < 1 then stage0.1 else stage0.2

/-- The binary tree of three stages of 16-wide multiplexers over the slice (R41). -/
def muxTree8 (v : Fin 8 → Word) (b : Bool × Bool × Bool) : Word :=
  Gate.mux16
    (Gate.mux16 (Gate.mux16 (v 0) (v 1) b.2.2) (Gate.mux16 (v 2) (v 3) b.2.2) b.2.1)
    (Gate.mux16 (Gate.mux16 (v 4) (v 5) b.2.2) (Gate.mux16 (v 6) (v 7) b.2.2) b.2.1)
    b.1

/-- The operation of one tick on a tier: every child sees the input, the remaining address bits and its gated load, and
the outputs are reduced to one (R41, R42). -/
def tierUpdate {k : Nat} (t : Tier k) (inp : Word) (addr : Addr) (load : Bool) : Tier k × Word :=
  match t with
  | .reg old => (.reg (Gate.register16 old inp load), Gate.register16 old inp load)
  | .node (k := k) child =>
    let after := fun i => tierUpdate (child i) inp addr (gatedLoad load (tierSlice k addr) i)
    (.node (fun i => (after i).1), muxTree8 (fun i => (after i).2) (tierSlice k addr))

/-- The word a tier holds at an address: at each tier, that of the child whose number is the 3-bit slice. -/
def tierWord {k : Nat} (t : Tier k) (addr : Addr) : Word :=
  match t with
  | .reg w => w
  | .node (k := k) child => tierWord (child ⟨addr.toNat / 8 ^ k % 8, Nat.mod_lt _ (by decide)⟩) addr

end Sys2Proof.Machine
end

