-- ==== Sys2Proof/Machine/Datapath.lean ====
section
/-! DEFINITION. The CPU and the Computer as the spec writes them, over the raw bits of the instruction word
(43_compute_instruction.md R160, R161; 44_computer.md R205), with no decoded instruction in between, and the CPU's four
outputs, which the host may observe during a tick (44_computer.md R210; notes/assumptions/18.md). The machine's step is
stated equal to this tick. -/

namespace Sys2Proof.Machine

/-- The CPU's own registers (10_state.md R20). -/
structure CpuRegs where
  a : Word
  d : Word
  l : Word
  pc : Word
deriving DecidableEq, Repr

/-- The CPU's outputs (43_compute_instruction.md R161). -/
structure CpuOutputs where
  /-- Memory output: the ALU result. -/
  outM : Word
  /-- Memory-write signal. -/
  writeM : Bool
  /-- Memory address: A after its update, all 16 bits. -/
  addressM : Word
  /-- The program counter from before this tick's update. -/
  pc : Word
deriving DecidableEq, Repr

/-- The per-tick datapath (43_compute_instruction.md R160), line by line. -/
def cpu (inM ins : Word) (reset : Bool) (r : CpuRegs) : CpuOutputs × CpuRegs :=
  let c := ins.getLsbD 15
  let a' := if c = false then ins else if ins.getLsbD 5 then r.l else r.a
  let x := r.d
  let y := if ins.getLsbD 12 then inM else a'
  let out := alu ⟨ins.getLsbD 11, ins.getLsbD 10, ins.getLsbD 9, ins.getLsbD 8, ins.getLsbD 7, ins.getLsbD 6⟩ x y
  let d' := if c && ins.getLsbD 4 then out else r.d
  let writeM := c && ins.getLsbD 3
  let jump := c && ((ins.getLsbD 2 && ng out) || (ins.getLsbD 1 && zr out) || (ins.getLsbD 0 && !ng out && !zr out))
  let counter := pcUpdate r.pc a' true jump reset
  (⟨out, writeM, a', counter.1⟩, ⟨a', d', out, counter.2⟩)

/-- One tick of the Computer with the host's input `reset` (44_computer.md R205): the CPU's outputs and the state of
the spec's seven components at the start of the next tick; the host's schedule is left alone. -/
def computerTick (reset : Bool) (s : State) : CpuOutputs × State :=
  let r := cpu s.memIn (s.rom.read (low15 s.pc)) reset ⟨s.regA, s.regD, s.latchL, s.pc⟩
  let ram' := if r.1.writeM then s.ram.write (low15 r.1.addressM) r.1.outM else s.ram
  (r.1, { s with pc := r.2.pc, regA := r.2.a, regD := r.2.d, latchL := r.2.l, ram := ram',
                 memIn := ram'.read (low15 r.1.addressM) })

/-- What the host may observe of the CPU in the coming tick (44_computer.md R210). -/
def cpuOutputs (s : State) : CpuOutputs := (computerTick (resetNow s) s).1

end Sys2Proof.Machine
end

