-- ==== Sys2Proof/Safety.lean ====
section
/-! DEFINITION. What claims about runs are stated in: a step that completes, the invariant of the state, equality of
contents, and the spec's own notion of an ended run. -/

namespace Sys2Proof.Machine

/-- The step completes: neither a fault nor a refusal (44_computer.md R206, R207). -/
def State.Completes (s : State) : Prop := ∃ t, step s = .next t

/-- Both memories are in canonical form, so that equal memories are equal data (20_memory.md R43). -/
abbrev State.Inv (s : State) : Prop := s.ram.wf = true ∧ s.rom.wf = true

/-- The spec's seven components (10_state.md R20) hold the same in both states: the memories by their contents, word by
word, however they are listed. The host's schedule of `reset` inputs is no component. -/
structure State.SameContents (s t : State) : Prop where
  pc : s.pc = t.pc
  regA : s.regA = t.regA
  regD : s.regD = t.regD
  latchL : s.latchL = t.latchL
  memIn : s.memIn = t.memIn
  ram : ∀ b, s.ram.read b = t.ram.read b
  rom : ∀ b, s.rom.read b = t.rom.read b

/-- A run has ended at `s`: a tick with `reset = 0` changes no component's contents. The spec's definition, not the
hardware's: the hardware never stops (44_computer.md R212; 92_eei_decisions.md D9; notes/assumptions/15.md). -/
def State.Ended (s : State) : Prop := (computerTick false s).2.SameContents s

/-- The memory input of the tick is the word at A, which holds after every tick and may fail before the first one
(10_state.md R35; 70_reset_and_hazards.md R246). -/
def State.MemInCoherent (s : State) : Prop := s.memIn = s.ram.read (low15 s.regA)

end Sys2Proof.Machine
end

