-- ==== Sys2Proof/Certificates/Slice0/Obligations.lean ====
section
/-! DEFINITION. The statements for the provers, from the numbered rules of spec/, and the few predicates they share. -/

open Sys2Proof Sys2Proof.Machine

namespace Sys2Proof.Claims

/-- A after the tick of a compute instruction: the previous ALU output if destination A is set (R162). -/
def newAOf (d : Dest) (s : State) : Word := if d.dA then s.latchL else s.regA

/-- The condition of a jump field on the signed value of the ALU output (R168, R190 to R197). -/
abbrev JumpCond (j : Jump) (out : Word) : Prop :=
  (j.jN = true ∧ out.toInt < 0) ∨ (j.jZ = true ∧ out.toInt = 0) ∨ (j.jP = true ∧ 0 < out.toInt)

/-- The whole effect of a compute instruction whose ALU output is `out`, from `s` to `t`, with its frame (the memory
address is the low 15 bits, the spec's own decision D3, log entry 6): A, D and the
memory change only under their destination bit, and of the memory only the word at the new A (R162, R163, R167, R168,
R170, R141, R205); the ROM never. -/
structure ComputeEffect (d : Dest) (j : Jump) (out : Word) (s t : State) : Prop where
  regA : t.regA = newAOf d s
  regD : t.regD = if d.dD then out else s.regD
  latchL : t.latchL = out
  pc : t.pc = if resetNow s then 0#16 else if JumpCond j out then newAOf d s else s.pc + 1
  ram : ∀ b, t.ram.read b = if d.dM = true ∧ b = low15 (newAOf d s) then out else s.ram.read b
  memIn : t.memIn = if d.dM then out else s.ram.read (low15 (newAOf d s))
  rom : t.rom = s.rom
  resetIn : t.resetIn = s.resetIn.tail

/-- The comp field `bits` is the instruction `i`, whatever the reserved bits, and `i` completes from every state with
the effect of the ALU output `f x y`: `x` is D at the start of the tick (R164), `y` the updated A, or the memory input
when the operand-select bit `bits[6]` is set (R165). -/
def Means (bits : BitVec 7) (i : Dest → Jump → Instr) (f : Word → Word → Word) : Prop :=
  ∀ d j, (∀ r, decode (computeWord r bits d j) = i d j) ∧
    ∀ s, ∃ t, exec (i d j) s = .next t ∧
      ComputeEffect d j (f s.regD (if bits.getLsbD 6 then s.memIn else newAOf d s)) s t

/-- Every compute instruction with dest `d` completes, latches its ALU output, and relates the states by `P`. -/
def DestLaw (d : Dest) (P : State → State → Prop) : Prop :=
  ∀ (a zx nx zy ny f no : Bool) (j : Jump) (s : State), ∃ t,
    exec (compInstr a zx nx zy ny f no d j) s = .next t ∧
    t.latchL = alu ⟨zx, nx, zy, ny, f, no⟩ s.regD (if a then s.memIn else t.regA) ∧ P s t

/-- The memory `t` is `s` with the word at `a` replaced by `v`. -/
def Stored (s : Memory) (a : Addr) (v : Word) (t : Memory) : Prop :=
  ∀ b, t.read b = if b = a then v else s.read b

/-- Every compute instruction with jump `j` completes and goes to 0 under reset, else to the updated A exactly when its
ALU output meets `cond`, else to the next address; its destinations are written all the same, A, D and the memory word
at the updated A, and nothing else of RAM; and the CPU's program-counter output of the following tick is the new program
counter. -/
def JumpLaw (j : Jump) (cond : Word → Prop) : Prop :=
  ∀ (a zx nx zy ny f no : Bool) (d : Dest) (s : State), ∃ t,
    exec (compInstr a zx nx zy ny f no d j) s = .next t ∧
    t.latchL = alu ⟨zx, nx, zy, ny, f, no⟩ s.regD (if a then s.memIn else t.regA) ∧
    (resetNow s = true → t.pc = 0#16) ∧
    (resetNow s = false → cond t.latchL → t.pc = t.regA) ∧
    (resetNow s = false → ¬ cond t.latchL → t.pc = s.pc + 1) ∧
    t.regA = newAOf d s ∧ t.regD = (if d.dD then t.latchL else s.regD) ∧
    (d.dM = true → Stored s.ram (low15 t.regA) t.latchL t.ram ∧ t.memIn = t.latchL) ∧
    (d.dM = false → t.ram = s.ram) ∧
    (cpuOutputs t).pc = t.pc

end Sys2Proof.Claims

open Sys2Proof.Claims

/-! ### Encoding -/

/-- A few words of the spec's examples decode to their instructions: `@100`, `D=A`, `M=D`, `0;JMP`, `AM=M+1`, an
unnamed comp. Tier 1. -/
def Obligations.DecodeOfKnownWords : Prop :=
  decode 0x0064#16 = .atValue 100#15 ∧ decode 0xEC10#16 = .compA Dest.d Jump.none ∧
  decode 0xE308#16 = .compD Dest.m Jump.none ∧ decode 0xEA87#16 = .zero Dest.none Jump.jmp ∧
  decode 0xFDE8#16 = .mPlusOne Dest.am Jump.none ∧ decode 0x8FBC#16 = .comp0111110 Dest.amd Jump.jlt

/-- Decoding the encoded word gives the instruction back, for every instruction and every operand. Tier 3. -/
def Obligations.DecodeOfEncodeIsTheInstruction : Prop := ∀ i : Instr, decode (encode i) = i

/-- Encoding what a word decodes to gives the word back, but for the reserved bits, written 11 (the spec's own choice
D2, log entry 12). Tier 2. -/
def Obligations.EncodeOfDecodeIsTheWord : Prop :=
  ∀ w : Word, encode (decode w) = if w.getLsbD 15 then w ||| 0x6000#16 else w

/-- Every word is an instruction that completes from every state, and the reserved bits of a compute word change
nothing about it (R65; the latter is the spec's own inference, log entry 12). Tier 2. -/
def Obligations.EveryWordIsLegalAndReservedBitsIgnored : Prop :=
  (∀ (w : Word) (s : State), ∃ t, exec (decode w) s = .next t) ∧
  ∀ (w : Word) (r : BitVec 2), w.getLsbD 15 = true →
    decode ((w &&& 0x9FFF#16) ||| (r.setWidth 16 <<< 13)) = decode w

/-- A word matches an instruction's row of the opcode table (its masked bits are the row's match) exactly when it
decodes to an instruction of that row: no row is missed, none overlaps another (R67, R130). Tier 2. -/
def Obligations.DecodeFollowsTheOpcodeTable : Prop :=
  ∀ (w : Word) (i : Instr), (tableRow i).covers w = true ↔ tableRow (decode w) = tableRow i

/-! ### The instructions -/

/-- The address instruction (R150, R151): its word decodes to it, and from every state it completes with A the
zero-extended value, D, RAM and ROM as they were, no jump, the memory input the word at the value, and L the ALU's
output under the value's own bits, the spec's own decision D4 (log entry 7). Tier 2. -/
def Obligations.AddressInstructionLoadsItsValue : Prop :=
  ∀ (v : Addr), decode (0#1 ++ v) = .atValue v ∧
    ∀ s : State, ∃ t, exec (.atValue v) s = .next t ∧
      t.regA.toNat = v.toNat ∧ t.regD = s.regD ∧ t.ram = s.ram ∧ t.rom = s.rom ∧
      t.pc = (if resetNow s then 0#16 else s.pc + 1) ∧
      t.latchL = alu ⟨v.getLsbD 11, v.getLsbD 10, v.getLsbD 9, v.getLsbD 8, v.getLsbD 7, v.getLsbD 6⟩ s.regD
        (if v.getLsbD 12 then s.memIn else 0#1 ++ v) ∧
      t.memIn = s.ram.read v ∧ t.resetIn = s.resetIn.tail

/-- The three constant comps (R100 to R102, the spec's own inference from R90): the result is the same for all operands. Tier 2. -/
def Obligations.ConstantComps : Prop :=
  Means 0b0101010#7 .zero (fun _ _ => 0#16) ∧
  Means 0b0111111#7 .one (fun _ _ => 1#16) ∧
  Means 0b0111010#7 .negOne (fun _ _ => -1#16)

/-- The comps that pass one operand (R103 to R105, the spec's own inference from R90). Tier 2. -/
def Obligations.OperandComps : Prop :=
  Means 0b0001100#7 .compD (fun x _ => x) ∧
  Means 0b0110000#7 .compA (fun _ y => y) ∧
  Means 0b1110000#7 .compM (fun _ y => y)

/-- Bitwise complement and two's-complement negation of one operand (R106 to R111, the spec's own inference from R90). Tier 2. -/
def Obligations.ComplementAndNegationComps : Prop :=
  Means 0b0001101#7 .notD (fun x _ => ~~~x) ∧
  Means 0b0110001#7 .notA (fun _ y => ~~~y) ∧
  Means 0b1110001#7 .notM (fun _ y => ~~~y) ∧
  Means 0b0001111#7 .negD (fun x _ => -x) ∧
  Means 0b0110011#7 .negA (fun _ y => -y) ∧
  Means 0b1110011#7 .negM (fun _ y => -y)

/-- One operand plus 1 and minus 1, modulo 2^16 (R112 to R117, the spec's own inference from R90). Tier 2. -/
def Obligations.IncrementAndDecrementComps : Prop :=
  Means 0b0011111#7 .dPlusOne (fun x _ => x + 1#16) ∧
  Means 0b0110111#7 .aPlusOne (fun _ y => y + 1#16) ∧
  Means 0b1110111#7 .mPlusOne (fun _ y => y + 1#16) ∧
  Means 0b0001110#7 .dMinusOne (fun x _ => x - 1#16) ∧
  Means 0b0110010#7 .aMinusOne (fun _ y => y - 1#16) ∧
  Means 0b1110010#7 .mMinusOne (fun _ y => y - 1#16)

/-- Sum and both differences, modulo 2^16 (R118 to R123, the spec's own inference from R90). Tier 2. -/
def Obligations.SumAndDifferenceComps : Prop :=
  Means 0b0000010#7 .dPlusA (fun x y => x + y) ∧
  Means 0b1000010#7 .dPlusM (fun x y => x + y) ∧
  Means 0b0010011#7 .dMinusA (fun x y => x - y) ∧
  Means 0b1010011#7 .dMinusM (fun x y => x - y) ∧
  Means 0b0000111#7 .aMinusD (fun x y => y - x) ∧
  Means 0b1000111#7 .mMinusD (fun x y => y - x)

/-- Bitwise AND and OR (R124 to R127, the spec's own inference from R90). Tier 2. -/
def Obligations.AndAndOrComps : Prop :=
  Means 0b0000000#7 .dAndA (fun x y => x &&& y) ∧
  Means 0b1000000#7 .dAndM (fun x y => x &&& y) ∧
  Means 0b0010101#7 .dOrA (fun x y => x ||| y) ∧
  Means 0b1010101#7 .dOrM (fun x y => x ||| y)

/-- The 46 comps without a mnemonic whose operand-select bit is 0, by the closed forms of R129's table, the spec's own inference from R90. Tier 2. -/
def Obligations.UnnamedCompsOnA : Prop :=
  Means 0b0000001#7 .comp0000001 (fun x y => ~~~x ||| ~~~y) ∧
  Means 0b0000011#7 .comp0000011 (fun x y => -x - y - 1#16) ∧
  Means 0b0000100#7 .comp0000100 (fun x y => x &&& ~~~y) ∧
  Means 0b0000101#7 .comp0000101 (fun x y => ~~~x ||| y) ∧
  Means 0b0000110#7 .comp0000110 (fun x y => x - y - 1#16) ∧
  Means 0b0001000#7 .comp0001000 (fun _ _ => 0#16) ∧
  Means 0b0001001#7 .comp0001001 (fun _ _ => -1#16) ∧
  Means 0b0001010#7 .comp0001010 (fun x _ => x) ∧
  Means 0b0001011#7 .comp0001011 (fun x _ => -x - 1#16) ∧
  Means 0b0010000#7 .comp0010000 (fun x y => ~~~x &&& y) ∧
  Means 0b0010001#7 .comp0010001 (fun x y => x ||| ~~~y) ∧
  Means 0b0010010#7 .comp0010010 (fun x y => y - x - 1#16) ∧
  Means 0b0010100#7 .comp0010100 (fun x y => ~~~x &&& ~~~y) ∧
  Means 0b0010110#7 .comp0010110 (fun x y => -x - y - 2#16) ∧
  Means 0b0010111#7 .comp0010111 (fun x y => x + y + 1#16) ∧
  Means 0b0011000#7 .comp0011000 (fun _ _ => 0#16) ∧
  Means 0b0011001#7 .comp0011001 (fun _ _ => -1#16) ∧
  Means 0b0011010#7 .comp0011010 (fun x _ => -x - 1#16) ∧
  Means 0b0011011#7 .comp0011011 (fun x _ => x) ∧
  Means 0b0011100#7 .comp0011100 (fun x _ => ~~~x) ∧
  Means 0b0011101#7 .comp0011101 (fun x _ => x) ∧
  Means 0b0011110#7 .comp0011110 (fun x _ => -x - 2#16) ∧
  Means 0b0100000#7 .comp0100000 (fun _ _ => 0#16) ∧
  Means 0b0100001#7 .comp0100001 (fun _ _ => -1#16) ∧
  Means 0b0100010#7 .comp0100010 (fun _ y => y) ∧
  Means 0b0100011#7 .comp0100011 (fun _ y => -y - 1#16) ∧
  Means 0b0100100#7 .comp0100100 (fun _ _ => 0#16) ∧
  Means 0b0100101#7 .comp0100101 (fun _ _ => -1#16) ∧
  Means 0b0100110#7 .comp0100110 (fun _ y => -y - 1#16) ∧
  Means 0b0100111#7 .comp0100111 (fun _ y => y) ∧
  Means 0b0101000#7 .comp0101000 (fun _ _ => 0#16) ∧
  Means 0b0101001#7 .comp0101001 (fun _ _ => -1#16) ∧
  Means 0b0101011#7 .comp0101011 (fun _ _ => -1#16) ∧
  Means 0b0101100#7 .comp0101100 (fun _ _ => 0#16) ∧
  Means 0b0101101#7 .comp0101101 (fun _ _ => -1#16) ∧
  Means 0b0101110#7 .comp0101110 (fun _ _ => -1#16) ∧
  Means 0b0101111#7 .comp0101111 (fun _ _ => 0#16) ∧
  Means 0b0110100#7 .comp0110100 (fun _ y => ~~~y) ∧
  Means 0b0110101#7 .comp0110101 (fun _ y => y) ∧
  Means 0b0110110#7 .comp0110110 (fun _ y => -y - 2#16) ∧
  Means 0b0111000#7 .comp0111000 (fun _ _ => 0#16) ∧
  Means 0b0111001#7 .comp0111001 (fun _ _ => -1#16) ∧
  Means 0b0111011#7 .comp0111011 (fun _ _ => 0#16) ∧
  Means 0b0111100#7 .comp0111100 (fun _ _ => -1#16) ∧
  Means 0b0111101#7 .comp0111101 (fun _ _ => 0#16) ∧
  Means 0b0111110#7 .comp0111110 (fun _ _ => -2#16)

/-- The 54 comps without a mnemonic whose operand-select bit is 1, by the closed forms of R129's table, the spec's own inference from R90. Tier 2. -/
def Obligations.UnnamedCompsOnM : Prop :=
  Means 0b1000001#7 .comp1000001 (fun x y => ~~~x ||| ~~~y) ∧
  Means 0b1000011#7 .comp1000011 (fun x y => -x - y - 1#16) ∧
  Means 0b1000100#7 .comp1000100 (fun x y => x &&& ~~~y) ∧
  Means 0b1000101#7 .comp1000101 (fun x y => ~~~x ||| y) ∧
  Means 0b1000110#7 .comp1000110 (fun x y => x - y - 1#16) ∧
  Means 0b1001000#7 .comp1001000 (fun _ _ => 0#16) ∧
  Means 0b1001001#7 .comp1001001 (fun _ _ => -1#16) ∧
  Means 0b1001010#7 .comp1001010 (fun x _ => x) ∧
  Means 0b1001011#7 .comp1001011 (fun x _ => -x - 1#16) ∧
  Means 0b1001100#7 .comp1001100 (fun x _ => x) ∧
  Means 0b1001101#7 .comp1001101 (fun x _ => ~~~x) ∧
  Means 0b1001110#7 .comp1001110 (fun x _ => x - 1#16) ∧
  Means 0b1001111#7 .comp1001111 (fun x _ => -x) ∧
  Means 0b1010000#7 .comp1010000 (fun x y => ~~~x &&& y) ∧
  Means 0b1010001#7 .comp1010001 (fun x y => x ||| ~~~y) ∧
  Means 0b1010010#7 .comp1010010 (fun x y => y - x - 1#16) ∧
  Means 0b1010100#7 .comp1010100 (fun x y => ~~~x &&& ~~~y) ∧
  Means 0b1010110#7 .comp1010110 (fun x y => -x - y - 2#16) ∧
  Means 0b1010111#7 .comp1010111 (fun x y => x + y + 1#16) ∧
  Means 0b1011000#7 .comp1011000 (fun _ _ => 0#16) ∧
  Means 0b1011001#7 .comp1011001 (fun _ _ => -1#16) ∧
  Means 0b1011010#7 .comp1011010 (fun x _ => -x - 1#16) ∧
  Means 0b1011011#7 .comp1011011 (fun x _ => x) ∧
  Means 0b1011100#7 .comp1011100 (fun x _ => ~~~x) ∧
  Means 0b1011101#7 .comp1011101 (fun x _ => x) ∧
  Means 0b1011110#7 .comp1011110 (fun x _ => -x - 2#16) ∧
  Means 0b1011111#7 .comp1011111 (fun x _ => x + 1#16) ∧
  Means 0b1100000#7 .comp1100000 (fun _ _ => 0#16) ∧
  Means 0b1100001#7 .comp1100001 (fun _ _ => -1#16) ∧
  Means 0b1100010#7 .comp1100010 (fun _ y => y) ∧
  Means 0b1100011#7 .comp1100011 (fun _ y => -y - 1#16) ∧
  Means 0b1100100#7 .comp1100100 (fun _ _ => 0#16) ∧
  Means 0b1100101#7 .comp1100101 (fun _ _ => -1#16) ∧
  Means 0b1100110#7 .comp1100110 (fun _ y => -y - 1#16) ∧
  Means 0b1100111#7 .comp1100111 (fun _ y => y) ∧
  Means 0b1101000#7 .comp1101000 (fun _ _ => 0#16) ∧
  Means 0b1101001#7 .comp1101001 (fun _ _ => -1#16) ∧
  Means 0b1101010#7 .comp1101010 (fun _ _ => 0#16) ∧
  Means 0b1101011#7 .comp1101011 (fun _ _ => -1#16) ∧
  Means 0b1101100#7 .comp1101100 (fun _ _ => 0#16) ∧
  Means 0b1101101#7 .comp1101101 (fun _ _ => -1#16) ∧
  Means 0b1101110#7 .comp1101110 (fun _ _ => -1#16) ∧
  Means 0b1101111#7 .comp1101111 (fun _ _ => 0#16) ∧
  Means 0b1110100#7 .comp1110100 (fun _ y => ~~~y) ∧
  Means 0b1110101#7 .comp1110101 (fun _ y => y) ∧
  Means 0b1110110#7 .comp1110110 (fun _ y => -y - 2#16) ∧
  Means 0b1111000#7 .comp1111000 (fun _ _ => 0#16) ∧
  Means 0b1111001#7 .comp1111001 (fun _ _ => -1#16) ∧
  Means 0b1111010#7 .comp1111010 (fun _ _ => -1#16) ∧
  Means 0b1111011#7 .comp1111011 (fun _ _ => 0#16) ∧
  Means 0b1111100#7 .comp1111100 (fun _ _ => -1#16) ∧
  Means 0b1111101#7 .comp1111101 (fun _ _ => 0#16) ∧
  Means 0b1111110#7 .comp1111110 (fun _ _ => -2#16) ∧
  Means 0b1111111#7 .comp1111111 (fun _ _ => 1#16)

/-- The eight dests (R180 to R187), for every comp and jump: which of A, D and the memory change, A taking the previous
ALU output, the memory word written being that at the updated A. The address is the low 15 bits, the spec's own decision
D3 (log entry 6). Tier 2. -/
def Obligations.DestFieldSelectsTheWrites : Prop :=
  DestLaw Dest.none (fun s t => t.regA = s.regA ∧ t.regD = s.regD ∧ t.ram = s.ram) ∧
  DestLaw Dest.m (fun s t => t.regA = s.regA ∧ t.regD = s.regD ∧ Stored s.ram (low15 s.regA) t.latchL t.ram ∧
    t.memIn = t.latchL) ∧
  DestLaw Dest.d (fun s t => t.regA = s.regA ∧ t.regD = t.latchL ∧ t.ram = s.ram) ∧
  DestLaw Dest.md (fun s t => t.regA = s.regA ∧ t.regD = t.latchL ∧ Stored s.ram (low15 s.regA) t.latchL t.ram ∧
    t.memIn = t.latchL) ∧
  DestLaw Dest.a (fun s t => t.regA = s.latchL ∧ t.regD = s.regD ∧ t.ram = s.ram ∧
    t.memIn = s.ram.read (low15 s.latchL)) ∧
  DestLaw Dest.am (fun s t => t.regA = s.latchL ∧ t.regD = s.regD ∧ Stored s.ram (low15 s.latchL) t.latchL t.ram ∧
    t.memIn = t.latchL) ∧
  DestLaw Dest.ad (fun s t => t.regA = s.latchL ∧ t.regD = t.latchL ∧ t.ram = s.ram ∧
    t.memIn = s.ram.read (low15 s.latchL)) ∧
  DestLaw Dest.amd (fun s t => t.regA = s.latchL ∧ t.regD = t.latchL ∧ Stored s.ram (low15 s.latchL) t.latchL t.ram ∧
    t.memIn = t.latchL)

/-- The eight jumps (R190 to R197), for every comp and dest, by the signed value of the ALU output. The RAM address of a
memory destination is the low 15 bits, the spec's own decision D3 (log entry 6). Tier 2. -/
def Obligations.JumpFieldSelectsTheCondition : Prop :=
  JumpLaw Jump.none (fun _ => False) ∧
  JumpLaw Jump.jgt (fun out => 0 < out.toInt) ∧
  JumpLaw Jump.jeq (fun out => out.toInt = 0) ∧
  JumpLaw Jump.jge (fun out => 0 ≤ out.toInt) ∧
  JumpLaw Jump.jlt (fun out => out.toInt < 0) ∧
  JumpLaw Jump.jne (fun out => out.toInt ≠ 0) ∧
  JumpLaw Jump.jle (fun out => out.toInt ≤ 0) ∧
  JumpLaw Jump.jmp (fun _ => True)

/-! ### The ALU and the component library -/

/-- The closed forms of the 64 control patterns `zx nx zy ny f no` (R93, the spec's own inference from R90). Tier 2. -/
def Obligations.AluClosedForms : Prop :=
  ∀ x y : Word,
  alu (AluCtl.ofBits 0b000000#6) x y = x &&& y ∧
  alu (AluCtl.ofBits 0b000001#6) x y = ~~~x ||| ~~~y ∧
  alu (AluCtl.ofBits 0b000010#6) x y = x + y ∧
  alu (AluCtl.ofBits 0b000011#6) x y = -x - y - 1#16 ∧
  alu (AluCtl.ofBits 0b000100#6) x y = x &&& ~~~y ∧
  alu (AluCtl.ofBits 0b000101#6) x y = ~~~x ||| y ∧
  alu (AluCtl.ofBits 0b000110#6) x y = x - y - 1#16 ∧
  alu (AluCtl.ofBits 0b000111#6) x y = y - x ∧
  alu (AluCtl.ofBits 0b001000#6) x y = 0#16 ∧
  alu (AluCtl.ofBits 0b001001#6) x y = -1#16 ∧
  alu (AluCtl.ofBits 0b001010#6) x y = x ∧
  alu (AluCtl.ofBits 0b001011#6) x y = -x - 1#16 ∧
  alu (AluCtl.ofBits 0b001100#6) x y = x ∧
  alu (AluCtl.ofBits 0b001101#6) x y = ~~~x ∧
  alu (AluCtl.ofBits 0b001110#6) x y = x - 1#16 ∧
  alu (AluCtl.ofBits 0b001111#6) x y = -x ∧
  alu (AluCtl.ofBits 0b010000#6) x y = ~~~x &&& y ∧
  alu (AluCtl.ofBits 0b010001#6) x y = x ||| ~~~y ∧
  alu (AluCtl.ofBits 0b010010#6) x y = y - x - 1#16 ∧
  alu (AluCtl.ofBits 0b010011#6) x y = x - y ∧
  alu (AluCtl.ofBits 0b010100#6) x y = ~~~x &&& ~~~y ∧
  alu (AluCtl.ofBits 0b010101#6) x y = x ||| y ∧
  alu (AluCtl.ofBits 0b010110#6) x y = -x - y - 2#16 ∧
  alu (AluCtl.ofBits 0b010111#6) x y = x + y + 1#16 ∧
  alu (AluCtl.ofBits 0b011000#6) x y = 0#16 ∧
  alu (AluCtl.ofBits 0b011001#6) x y = -1#16 ∧
  alu (AluCtl.ofBits 0b011010#6) x y = -x - 1#16 ∧
  alu (AluCtl.ofBits 0b011011#6) x y = x ∧
  alu (AluCtl.ofBits 0b011100#6) x y = ~~~x ∧
  alu (AluCtl.ofBits 0b011101#6) x y = x ∧
  alu (AluCtl.ofBits 0b011110#6) x y = -x - 2#16 ∧
  alu (AluCtl.ofBits 0b011111#6) x y = x + 1#16 ∧
  alu (AluCtl.ofBits 0b100000#6) x y = 0#16 ∧
  alu (AluCtl.ofBits 0b100001#6) x y = -1#16 ∧
  alu (AluCtl.ofBits 0b100010#6) x y = y ∧
  alu (AluCtl.ofBits 0b100011#6) x y = -y - 1#16 ∧
  alu (AluCtl.ofBits 0b100100#6) x y = 0#16 ∧
  alu (AluCtl.ofBits 0b100101#6) x y = -1#16 ∧
  alu (AluCtl.ofBits 0b100110#6) x y = -y - 1#16 ∧
  alu (AluCtl.ofBits 0b100111#6) x y = y ∧
  alu (AluCtl.ofBits 0b101000#6) x y = 0#16 ∧
  alu (AluCtl.ofBits 0b101001#6) x y = -1#16 ∧
  alu (AluCtl.ofBits 0b101010#6) x y = 0#16 ∧
  alu (AluCtl.ofBits 0b101011#6) x y = -1#16 ∧
  alu (AluCtl.ofBits 0b101100#6) x y = 0#16 ∧
  alu (AluCtl.ofBits 0b101101#6) x y = -1#16 ∧
  alu (AluCtl.ofBits 0b101110#6) x y = -1#16 ∧
  alu (AluCtl.ofBits 0b101111#6) x y = 0#16 ∧
  alu (AluCtl.ofBits 0b110000#6) x y = y ∧
  alu (AluCtl.ofBits 0b110001#6) x y = ~~~y ∧
  alu (AluCtl.ofBits 0b110010#6) x y = y - 1#16 ∧
  alu (AluCtl.ofBits 0b110011#6) x y = -y ∧
  alu (AluCtl.ofBits 0b110100#6) x y = ~~~y ∧
  alu (AluCtl.ofBits 0b110101#6) x y = y ∧
  alu (AluCtl.ofBits 0b110110#6) x y = -y - 2#16 ∧
  alu (AluCtl.ofBits 0b110111#6) x y = y + 1#16 ∧
  alu (AluCtl.ofBits 0b111000#6) x y = 0#16 ∧
  alu (AluCtl.ofBits 0b111001#6) x y = -1#16 ∧
  alu (AluCtl.ofBits 0b111010#6) x y = -1#16 ∧
  alu (AluCtl.ofBits 0b111011#6) x y = 0#16 ∧
  alu (AluCtl.ofBits 0b111100#6) x y = -1#16 ∧
  alu (AluCtl.ofBits 0b111101#6) x y = 0#16 ∧
  alu (AluCtl.ofBits 0b111110#6) x y = -2#16 ∧
  alu (AluCtl.ofBits 0b111111#6) x y = 1#16

/-- The flags are the sign of the output (R91): zero, negative, and positive when neither; never both. Tier 2. -/
def Obligations.FlagsAreTheSign : Prop :=
  ∀ out : Word, (zr out = true ↔ out.toNat = 0) ∧ ng out = out.getLsbD 15 ∧ (ng out = true ↔ out.toInt < 0) ∧
    ¬ (zr out = true ∧ ng out = true) ∧ ((!ng out && !zr out) = true ↔ 0 < out.toInt)

/-- The library of gates composed from nand (R80): the truth tables of the composed gates, which are the spec's own
inference (the table under R81), selection (R82) and the 16-wide operations as bitwise operations of words (R83 to R85).
Tier 2. -/
def Obligations.GateLibraryMeetsItsFunctions : Prop :=
  (∀ a b : Bool, Gate.nand a b = false ↔ a = true ∧ b = true) ∧
  (∀ a b : Bool, Gate.notG a = !a ∧ Gate.andG a b = (a && b) ∧ Gate.orG a b = (a || b) ∧ Gate.xorG a b = (a != b)) ∧
  (∀ a b sel : Bool, Gate.mux a b sel = (if sel then b else a) ∧
    Gate.demux a sel = (if sel then (false, a) else (a, false))) ∧
  ∀ x y : Word, Gate.and16 x y = x &&& y ∧ Gate.or16 x y = x ||| y ∧ Gate.not16 x = ~~~x ∧
    (∀ sel, Gate.mux16 x y sel = if sel then y else x) ∧ (Gate.iszero16 x = true ↔ x = 0#16)

/-- The chain of 16 full adders adds modulo 2^16, in the unsigned and the signed reading, and the increment adds one
(R86, R87, R89). Tier 2. -/
def Obligations.RippleAdderIsAddition : Prop :=
  (∀ a b c : Bool, (Gate.fullAdder a b c).1.toNat + 2 * (Gate.fullAdder a b c).2.toNat = a.toNat + b.toNat + c.toNat) ∧
  ∀ x y : Word, Gate.add16 x y = x + y ∧ (Gate.add16 x y).toNat = (x.toNat + y.toNat) % 65536 ∧
    (Gate.add16 x y).toInt = (x.toInt + y.toInt).bmod 65536 ∧ Gate.inc16 x = x + 1#16

/-- The ALU circuit built of the gate library computes the function of R90, and so does the ALU the machine uses, for
every control pattern and all operands; the circuit's flags are those of its output (R91). Tier 2. -/
def Obligations.GateAluIsTheAlu : Prop :=
  ∀ (c : AluCtl) (x y : Word),
    let x1 := if c.zx then 0#16 else x
    let x' := if c.nx then ~~~x1 else x1
    let y1 := if c.zy then 0#16 else y
    let y' := if c.ny then ~~~y1 else y1
    let r := if c.f then x' + y' else x' &&& y'
    let out := if c.no then ~~~r else r
    Gate.alu c x y = (out, zr out, ng out) ∧ alu c x y = out

/-- A register of 16 cells with one load signal reports and keeps the new value if loaded, else the old (R28). Tier 2. -/
def Obligations.RegisterIsSixteenCells : Prop :=
  ∀ (old inp : Word) (load : Bool), Gate.register16 old inp load = registerUpdate old inp load ∧
    registerUpdate old inp load = if load then inp else old

/-- The five-tier decode tree behaves as the flat memory (R41 to R45): if it holds the same words, then after any one
operation it reports the same word and still holds the same words. Tier 3. -/
def Obligations.DecodeTreeIsTheFlatMemory : Prop :=
  ∀ (t : Tier 5) (m : Memory), (∀ b, tierWord t b = m.read b) →
    ∀ (inp : Word) (addr : Addr) (load : Bool),
      (tierUpdate t inp addr load).2 = (m.update inp addr load).2 ∧
      ∀ b, tierWord (tierUpdate t inp addr load).1 b = (m.update inp addr load).1.read b

/-! ### Memory -/

/-- After any sequence of writes a read returns the latest word written to its address, or what was there before if
there was none (R44, R54). Tier 2. -/
def Obligations.ReadReturnsTheLatestWrite : Prop :=
  ∀ (m : Memory) (ws : List (Addr × Word)) (b : Addr),
    (ws.foldl (fun m w => m.write w.1 w.2) m).read b =
      match ws.reverse.find? (fun w => w.1 == b) with
      | some w => w.2
      | none => m.read b

/-- Two memories in canonical form that read alike are the same data: the form is canonical (log entry 2 names what an
unlisted word reads as; the statement holds whatever it is). Tier 2. -/
def Obligations.CanonicalMemoriesThatReadAlikeAreEqual : Prop :=
  ∀ m n : Memory, m.wf = true → n.wf = true → (∀ b, m.read b = n.read b) → m = n

/-- Bit 15 of an address is not used (R46, R143; the spec's own decision D3, log entry 6): the fetch at `v` and at
`v + 32768` is the same, and so is what a store and the read after it reach. Tier 2. -/
def Obligations.AddressBit15IsNotUsed : Prop :=
  ∀ (v : Word) (s : State) (j : Jump),
    fetch { s with pc := v + 0x8000#16 } = fetch { s with pc := v } ∧
    ∃ t u, exec (.compD Dest.m j) { s with regA := v } = .next t ∧
      exec (.compD Dest.m j) { s with regA := v + 0x8000#16 } = .next u ∧
      Stored s.ram (low15 v) s.regD t.ram ∧ u.ram = t.ram ∧ u.memIn = t.memIn

/-! ### The program counter and the tick -/

/-- The program counter reports its old value and takes its new one by strict priority (R140). Tier 1. -/
def Obligations.CounterPriority : Prop :=
  ∀ (old inp : Word) (inc load reset : Bool),
    (pcUpdate old inp inc load reset).1 = old ∧
    (reset = true → (pcUpdate old inp inc load reset).2 = 0#16) ∧
    (reset = false → load = true → (pcUpdate old inp inc load reset).2 = inp) ∧
    (reset = false → load = false → inc = true →
      (pcUpdate old inp inc load reset).2.toNat = (old.toNat + 1) % 65536) ∧
    (reset = false → load = false → inc = false → (pcUpdate old inp inc load reset).2 = old)

/-- When the word at the program counter decodes to an instruction, the step is that instruction, and nothing is added
around it (R205; the fetch address rests on the spec's own decisions D3 and D6, log entries 6 and 8). Tier 1. -/
def Obligations.StepRunsTheDecodedInstruction : Prop :=
  ∀ (s : State) (i : Instr), decode (s.rom.read (low15 s.pc)) = i → step s = exec i s

/-- The step through decoder, dispatch and 129 meanings is the tick the spec writes over the raw instruction bits (R160,
R205), from every state; the host's input of the tick is used up (log entry 5; it rests on the spec's own decisions too,
log entries 6 to 9). Tier 2. -/
def Obligations.StepIsTheComputerTick : Prop :=
  ∀ s : State, step s = .next ((computerTick (resetNow s) s).2.setResetIn s.resetIn.tail)

/-- The tick is always possible: every step and every instruction, from every state, completes (R207, R220). Tier 2. -/
def Obligations.EveryStepCompletes : Prop :=
  ∀ s : State, s.Completes ∧ ∀ i : Instr, ∃ t, exec i s = .next t

/-- The CPU's outputs in a tick (R161): the ALU result, the write signal (R167), the updated A, and the program counter
from before the update, which is the address of the instruction the tick runs (R142). Tier 2. -/
def Obligations.CpuOutputsOfATick : Prop :=
  ∀ s t : State, step s = .next t →
    (cpuOutputs s).outM =
      alu ⟨(fetch s).getLsbD 11, (fetch s).getLsbD 10, (fetch s).getLsbD 9, (fetch s).getLsbD 8, (fetch s).getLsbD 7,
        (fetch s).getLsbD 6⟩ s.regD (if (fetch s).getLsbD 12 then s.memIn else t.regA) ∧
    (cpuOutputs s).writeM = ((fetch s).getLsbD 15 && (fetch s).getLsbD 3) ∧
    (cpuOutputs s).addressM = t.regA ∧ (cpuOutputs s).pc = s.pc

/-- Both memories stay in canonical form: an invariant that every step keeps (the model's own form, log entry 3). Tier 3. -/
def Obligations.StepKeepsMemoriesCanonical : Prop :=
  ∀ s t : State, s.Inv → step s = .next t → t.Inv

/-- The invariant holds at reset: the model's canonical form (log entry 3) holds of the reset memories, which list nothing,
the model's choice of the spec's open power-on contents (R33, D1; log entries 1 and 2). Tier 1. -/
def Obligations.ResetMemoriesAreCanonical : Prop := State.reset.Inv

/-- The instruction memory is write-once-then-read-only: no run of any length changes it (R48, R57). Tier 2. -/
def Obligations.RunsNeverChangeRom : Prop :=
  ∀ (k : Nat) (s t : State), Sys2Proof.core.run k s = .next t → t.rom = s.rom

/-- After any tick the memory input is the word at A, whatever it was before (the spec's own inference R35, with its
decision D3, log entry 6). Tier 2. -/
def Obligations.MemoryInputIsTheWordAtA : Prop :=
  ∀ s t : State, step s = .next t → t.MemInCoherent

/-- Only these events change the state (R21, R22, R24, R25, R31). If A changed, the tick was an address instruction,
which loaded its own word, or a compute instruction with destination A, which loaded the previous ALU output; if D
changed, a compute instruction with destination D, which loaded its ALU output; if a RAM word changed, a compute
instruction with destination M, and it is the word at A; if the program counter did not go to the next address, it
went to 0 under reset or to A by a compute instruction with a jump bit. The RAM address rests on the spec's own decision D3
(log entry 6), the fetched word on D6 (log entry 8). Tier 2. -/
def Obligations.OnlyTheseEventsChangeState : Prop :=
  ∀ s t : State, step s = .next t →
    (t.regA ≠ s.regA → ((fetch s).getLsbD 15 = false ∧ t.regA = fetch s) ∨
      ((fetch s).getLsbD 15 = true ∧ (fetch s).getLsbD 5 = true ∧ t.regA = s.latchL)) ∧
    (t.regD ≠ s.regD → (fetch s).getLsbD 15 = true ∧ (fetch s).getLsbD 4 = true ∧ t.regD = t.latchL) ∧
    (∀ b, t.ram.read b ≠ s.ram.read b → (fetch s).getLsbD 15 = true ∧ (fetch s).getLsbD 3 = true ∧
      b = low15 t.regA ∧ t.ram.read b = t.latchL) ∧
    (t.pc ≠ s.pc + 1 → (resetNow s = true ∧ t.pc = 0#16) ∨
      (resetNow s = false ∧ (fetch s).getLsbD 15 = true ∧ jumpOf (fetch s) ≠ Jump.none ∧ t.pc = t.regA))

/-- A tick with reset 1 does everything the tick with reset 0 does and only forces the program counter to 0 (R240; the
spec's own decision D5, log entry 5). Tier 2. -/
def Obligations.ResetInputOnlyForcesThePc : Prop :=
  ∀ (s : State) (later : List Bool), ∃ t,
    step (s.setResetIn (false :: later)) = .next t ∧
    step (s.setResetIn (true :: later)) = .next { t with pc := 0#16 }

/-- A tick reads one word of RAM, that at the updated A (R52, with the spec's own decision D3, log entry 6): if another RAM
agrees at the updated A with the RAM from before the step, the step with it differs in nothing of the next state but
RAM. Tier 2. -/
def Obligations.TickReadsOneRamWord : Prop :=
  ∀ (s t : State) (m : Memory), step s = .next t → m.read (low15 t.regA) = s.ram.read (low15 t.regA) →
    ∃ u, step { s with ram := m } = .next u ∧ { u with ram := t.ram } = t

/-! ### Hazards -/

/-- A destination-A instruction loads the previous tick's ALU output and only latches its own (R243). After any
instruction, and so after a compute instruction of any comp, dest and jump, every compute instruction whose dest holds A
completes with A the ALU output of the tick before and its own in L. So `D=M` then `A=D` gives A = M, and `D=M` then
`A=D+1` also gives A = M. Tier 2. -/
def Obligations.DestAHasOneTickLatency : Prop :=
  (∀ (i : Instr) (a zx nx zy ny f no : Bool) (d : Dest) (k : Jump) (s : State), d.dA = true →
    ∃ t u, exec i s = .next t ∧ exec (compInstr a zx nx zy ny f no d k) t = .next u ∧ u.regA = t.latchL ∧
      u.latchL = alu ⟨zx, nx, zy, ny, f, no⟩ t.regD (if a then t.memIn else t.latchL)) ∧
  (∀ (a zx nx zy ny f no b zx' nx' zy' ny' f' no' : Bool) (c d : Dest) (j k : Jump) (s : State), d.dA = true →
    ∃ t u, exec (compInstr a zx nx zy ny f no c j) s = .next t ∧
      exec (compInstr b zx' nx' zy' ny' f' no' d k) t = .next u ∧
      u.regA = alu ⟨zx, nx, zy, ny, f, no⟩ s.regD (if a then s.memIn else newAOf c s)) ∧
  ∀ (s : State) (j k : Jump), ∃ t, exec (.compM Dest.d j) s = .next t ∧
    (∃ u, exec (.compD Dest.a k) t = .next u ∧ u.regA = s.memIn ∧ u.latchL = s.memIn) ∧
    (∃ u, exec (.dPlusOne Dest.a k) t = .next u ∧ u.regA = s.memIn ∧ u.latchL = s.memIn + 1)

/-- `AM=M+1` reads the word at the old A and writes its successor at the new A, the previous ALU output; the old word
stays unless the two addresses are one (the spec's own inference R244, with its decision D3, log entry 6). Tier 2. -/
def Obligations.MemoryOperandIsAtTheOldA : Prop :=
  ∀ (s : State) (j : Jump), s.MemInCoherent → ∃ t, exec (.mPlusOne Dest.am j) s = .next t ∧
    t.regA = s.latchL ∧ t.ram.read (low15 s.latchL) = s.ram.read (low15 s.regA) + 1 ∧
    (low15 s.regA ≠ low15 s.latchL → t.ram.read (low15 s.regA) = s.ram.read (low15 s.regA))

/-- An address instruction overwrites L, so that a destination-A instruction right after it loads the ALU's output on the
value's bits; for `@5` after D = 3 that is 1 (R245; rests on the spec's decision D4, log entry 7). Tier 2. -/
def Obligations.AddressInstructionOverwritesTheLatch : Prop :=
  ∀ (v : Addr) (s : State) (j : Jump), ∃ t u, exec (.atValue v) s = .next t ∧ exec (.compD Dest.a j) t = .next u ∧
    u.regA = alu (AluCtl.ofBits (v.extractLsb' 6 6)) s.regD (if v.getLsbD 12 then s.memIn else v.setWidth 16) ∧
    (v = 5#15 → s.regD = 3#16 → u.regA = 1#16)

/-- No other hazard (the spec's own inference R247): an address loaded by `@v` is the next tick's memory address; a word written is the next
tick's memory input if A does not change, for every comp; a value written to D is the next tick's first operand. Tier 2. -/
def Obligations.WritesAreSeenByTheNextTick : Prop :=
  (∀ (v : Addr) (s : State) (j : Jump), ∃ t u, exec (.atValue v) s = .next t ∧ exec (.compM Dest.d j) t = .next u ∧
    u.regD = s.ram.read v) ∧
  ∀ (a zx nx zy ny f no : Bool) (s : State) (j k : Jump), ∃ t u w,
    exec (compInstr a zx nx zy ny f no Dest.md j) s = .next t ∧
    exec (.compM Dest.none k) t = .next u ∧ u.latchL = t.latchL ∧
    exec (.compD Dest.none k) t = .next w ∧ w.latchL = t.latchL

/-! ### Runs -/

/-- `0;JMP` at its own target: after the first tick the state no longer changes, and the run has ended in the spec's
sense (the spec's own inference R208 and definition R212, log entries 6, 8 and 15). Tier 2. -/
def Obligations.SelfJumpReachesAFixedPoint : Prop :=
  ∀ s : State, fetch s = 0xEA87#16 → low15 s.regA = low15 s.pc → s.resetIn = [] →
    ∃ t, step s = .next t ∧ t.pc = s.regA ∧ t.regA = s.regA ∧ t.regD = s.regD ∧ t.ram = s.ram ∧ t.latchL = 0#16 ∧
      step t = .next t ∧ t.Ended

/-- `@p; 0;JMP` with `@p` at address p alternates between two states, neither of them an end of the run (the
spec's own inference R208, log entries 6, 7, 8 and 15). Tier 2. -/
def Obligations.TwoWordIdiomAlternates : Prop :=
  ∀ (s : State) (p : Addr), s.pc = 0#1 ++ p → fetch s = 0#1 ++ p → s.rom.read (p + 1) = 0xEA87#16 → s.resetIn = [] →
    ∃ t u v, step s = .next t ∧ step t = .next u ∧ step u = .next v ∧ step v = .next u ∧ ¬ u.Ended ∧ ¬ v.Ended

/-! ### Power-on, preload, reset -/

/-- The reset state is the spec's reference POWER_ON_STATE, all zero, with nothing preloaded and no reset scheduled: the
model's choice of the spec's open parameter D1 (log entries 1, 2 and 5). Tier 1. -/
def Obligations.ResetIsTheReferencePowerOn : Prop :=
  State.reset.pc = 0#16 ∧ State.reset.regA = 0#16 ∧ State.reset.regD = 0#16 ∧ State.reset.latchL = 0#16 ∧
  State.reset.memIn = 0#16 ∧ State.reset.resetIn = [] ∧
  ∀ b, State.reset.ram.read b = 0#16 ∧ State.reset.rom.read b = 0#16

/-- A well-formed program is preloaded from any power-on state: line `i` is the ROM word `i`, its first character the
most significant bit (D7, log entry 10), words above the last line and everything else are as at power-on (R201). Tier 2. -/
def Obligations.PreloadPlacesTheLines : Prop :=
  ∀ (p : PowerOn) (lines : List Line), Program.wellFormed lines = true →
    ∃ s, preload p lines = .next s ∧
      (∀ (i : Nat) (l : Line), lines[i]? = some l → ∀ k < 16,
        ((s.rom.read (BitVec.ofNat 15 i)).getLsbD (15 - k) = true ↔ l[k]? = some '1')) ∧
      (∀ b : Addr, lines.length ≤ b.toNat → s.rom.read b = p.rom.read b) ∧
      s = (State.powerOn p).setRom s.rom

/-- The preload refuses, as a whole, exactly the programs with a line that is not 16 characters `0` or `1` and those of
more than 32768 lines (R202; the latter is the spec's own decision D8, log entry 11). Tier 2. -/
def Obligations.PreloadRefusesIllFormedPrograms : Prop :=
  ∀ (p : PowerOn) (lines : List Line),
    (∃ r, preload p lines = .refused r) ↔
      (32768 < lines.length ∨ ∃ l ∈ lines, l.length ≠ 16 ∨ ∃ c ∈ l, c ≠ '0' ∧ c ≠ '1')

/-- From any power-on state, a first tick with reset 1 leaves the program counter at 0 and the ROM as preloaded, so that
the program's first line is fetched next, its first character the most significant bit; of a program without lines, the
power-on word at 0 (the spec's own inference R241, with its decision D7, log entries 1, 5, 8 and 10). Tier 2. -/
def Obligations.ResetOnTheFirstTickStartsTheProgram : Prop :=
  ∀ (p : PowerOn) (lines : List Line) (s : State), preload p lines = .next s →
    ∃ t, step (s.setResetIn [true]) = .next t ∧ t.pc = 0#16 ∧ t.rom = s.rom ∧ t.resetIn = [] ∧
      (∀ (l : Line) (ls : List Line), lines = l :: ls →
        fetch t = lineWord l ∧ ∀ k < 16, ((fetch t).getLsbD (15 - k) = true ↔ l[k]? = some '1')) ∧
      (lines = [] → fetch t = p.rom.read 0#15)

/-- The word that withFetchWord stores is the word the next step fetches, and no other word of the ROM changes (log
entry 13). Tier 2. -/
def Obligations.StoredFetchWordIsFetched : Prop :=
  ∀ (s : State) (nbits w : Nat), nbits ≤ 16 →
    (fetch (s.withFetchWord nbits w)).toNat = w % 2 ^ nbits ∧
    ∀ b, b ≠ low15 s.pc → (s.withFetchWord nbits w).rom.read b = s.rom.read b

/-- The end of a run is the fixed point of the tick (R212, the spec's own definition D9, log entry 15): where both memories
are in canonical form (log entry 3) and no reset is scheduled it is the state that a step gives back; it depends on
contents only, so a memory listed otherwise (log entry 20) ends no later; and from it every later state has the same
contents, while no reset is scheduled. Tier 2. -/
def Obligations.EndedIsTheFixedPointOfTheTick : Prop :=
  ∀ s : State, (s.Inv → s.resetIn = [] → (s.Ended ↔ step s = .next s)) ∧
    (∀ t : State, s.SameContents t → (s.Ended ↔ t.Ended)) ∧
    (s.Ended → s.resetIn = [] → ∀ k, ∃ t, Sys2Proof.core.run k s = .next t ∧ t.SameContents s)
end

