-- ==== Sys2Proof/Laws/Encoding.lean ====
section
/-! SUPPORT. What the fields of an encoded compute word are, bit by bit, and what the decoder reads from such a word. -/

namespace Sys2Proof

theorem Dest.getLsbD_bits (d : Dest) (p : Nat) :
    d.bits.getLsbD p = if p = 0 then d.dM else if p = 1 then d.dD else if p = 2 then d.dA else false := by
  simp only [Dest.bits, BitVec.getLsbD_append]
  match p with
  | 0 => simp
  | 1 => simp
  | 2 => simp
  | n + 3 => simp

theorem Jump.getLsbD_bits (j : Jump) (p : Nat) :
    j.bits.getLsbD p = if p = 0 then j.jP else if p = 1 then j.jZ else if p = 2 then j.jN else false := by
  simp only [Jump.bits, BitVec.getLsbD_append]
  match p with
  | 0 => simp
  | 1 => simp
  | 2 => simp
  | n + 3 => simp

/-- The bit picture of a compute word (30_encoding.md R62), one position at a time. -/
theorem getLsbD_computeWord (r : BitVec 2) (c : BitVec 7) (d : Dest) (j : Jump) (p : Nat) :
    (computeWord r c d j).getLsbD p =
      if p < 3 then j.bits.getLsbD p else if p < 6 then d.bits.getLsbD (p - 3)
      else if p < 13 then c.getLsbD (p - 6) else if p < 15 then r.getLsbD (p - 13) else decide (p = 15) := by
  simp only [computeWord, BitVec.getLsbD_append]
  by_cases h3 : p < 3
  · simp [h3]
  by_cases h6 : p < 6
  · simp [h3, h6, show p - 3 < 3 by omega]
  by_cases h13 : p < 13
  · simp [h3, h6, h13, show ¬ p - 3 < 3 by omega, show p - 3 - 3 = p - 6 by omega]
    omega
  by_cases h15 : p < 15
  · simp [h3, h6, h13, h15, show ¬ p - 3 < 3 by omega, show ¬ p - 3 - 3 < 7 by omega,
      show p - 3 - 3 - 7 = p - 13 by omega]
    omega
  · simp [h3, h6, h13, h15, show ¬ p - 3 < 3 by omega, show ¬ p - 3 - 3 < 7 by omega,
      show ¬ p - 3 - 3 - 7 < 2 by omega]
    omega

/-- What the decoder reads from a compute word: its comp, dest and jump fields, whatever the reserved bits. -/
theorem decode_computeWord (r : BitVec 2) (c : BitVec 7) (d : Dest) (j : Jump) :
    decode (computeWord r c d j) =
      compInstr (c.getLsbD 6) (c.getLsbD 5) (c.getLsbD 4) (c.getLsbD 3) (c.getLsbD 2) (c.getLsbD 1) (c.getLsbD 0) d j := by
  simp only [decode, destOf, jumpOf, getLsbD_computeWord, Dest.getLsbD_bits, Jump.getLsbD_bits]
  rfl

end Sys2Proof
end

