-- ==== Sys2Proof/Laws/Memory.lean ====
section
/-! SUPPORT. The memory operations: what a read sees after a write, and that every operation keeps the canonical form. -/

namespace Sys2Proof.Machine.Memory

/-! ### Reading after a write -/

theorem lookup_erase (m : Memory) (a b : Nat) :
    lookup b (erase a m) = if b = a then Config.unlistedWord else lookup b m := by
  induction m with
  | nil => simp [erase, lookup]
  | cons c rest ih =>
    obtain ⟨k, w⟩ := c
    unfold erase at ih ⊢
    by_cases hk : k = a
    · subst hk
      rw [List.filter_cons_of_neg (by simp), ih]
      by_cases hb : b = k <;> simp [lookup, hb]
    · rw [List.filter_cons_of_pos (by simpa using hk)]
      by_cases hb : b = k
      · simp [lookup, hb, hk]
      · simp [lookup, hb, ih]

theorem key_ne_of_mem_erase {m : Memory} {a : Nat} {c : WordCell} (h : c ∈ erase a m) : c.1 ≠ a := by
  simpa using (List.mem_filter.1 h).2

theorem lookup_insertCell (m : Memory) (a b : Nat) (v : Word) (h : ∀ c ∈ m, c.1 ≠ a) :
    lookup b (insertCell a v m) = if b = a then v else lookup b m := by
  induction m with
  | nil => simp [insertCell, lookup]
  | cons c rest ih =>
    obtain ⟨k, w⟩ := c
    have hk : k ≠ a := h (k, w) (by simp)
    simp only [insertCell]
    by_cases hak : a < k
    · simp [hak, lookup]
    · rw [if_neg hak]
      by_cases hb : b = k
      · simp [lookup, hb, hk]
      · simp [lookup, hb, ih (fun c hc => h c (List.mem_cons_of_mem _ hc))]

/-- A read after a write: the value written at its own address, what was there at every other. -/
theorem read_write (m : Memory) (a b : Addr) (v : Word) :
    (m.write a v).read b = if b = a then v else m.read b := by
  have hab : b.toNat = a.toNat ↔ b = a := BitVec.toNat_inj
  unfold write read
  by_cases hv : v = Config.unlistedWord
  · rw [if_pos hv, lookup_erase]
    by_cases hb : b = a <;> simp [hab, hb, hv]
  · rw [if_neg hv, lookup_insertCell _ _ _ _ (fun c hc => key_ne_of_mem_erase hc), lookup_erase]
    by_cases hb : b = a <;> simp [hab, hb]

/-- Everything the memory's operation of a tick does: the word at its own address is replaced if `load`, no other
changes, and the word reported is the one now there. -/
theorem read_update (m : Memory) (inp : Word) (a b : Addr) (load : Bool) :
    (m.update inp a load).1.read b = if load = true ∧ b = a then inp else m.read b := by
  cases load <;> simp [update, read_write]

theorem update_snd (m : Memory) (inp : Word) (a : Addr) (load : Bool) :
    (m.update inp a load).2 = (m.update inp a load).1.read a := rfl

/-! ### The canonical form -/

theorem wfFrom_mono {m : Memory} {lo lo' : Nat} (h : lo' ≤ lo) (hm : wfFrom lo m = true) : wfFrom lo' m = true := by
  cases m with
  | nil => rfl
  | cons c rest =>
    simp only [wfFrom, Bool.and_eq_true, decide_eq_true_eq] at hm ⊢
    exact ⟨⟨⟨by omega, hm.1.1.2⟩, hm.1.2⟩, hm.2⟩

theorem wfFrom_erase {m : Memory} (a : Nat) {lo : Nat} (hm : wfFrom lo m = true) : wfFrom lo (erase a m) = true := by
  induction m generalizing lo with
  | nil => rfl
  | cons c rest ih =>
    obtain ⟨k, w⟩ := c
    simp only [wfFrom, Bool.and_eq_true, decide_eq_true_eq] at hm
    have hrest := ih hm.2
    unfold erase at hrest ⊢
    by_cases hk : k = a
    · rw [List.filter_cons_of_neg (by simpa using hk)]
      exact wfFrom_mono (by omega) hrest
    · rw [List.filter_cons_of_pos (by simpa using hk)]
      simp only [wfFrom, Bool.and_eq_true, decide_eq_true_eq]
      exact ⟨hm.1, hrest⟩

theorem wfFrom_insertCell {m : Memory} {a : Nat} {v : Word} {lo : Nat} (hlo : lo ≤ a) (ha : a < Config.memoryWords)
    (hv : v ≠ Config.unlistedWord) (hne : ∀ c ∈ m, c.1 ≠ a) (hm : wfFrom lo m = true) :
    wfFrom lo (insertCell a v m) = true := by
  induction m generalizing lo with
  | nil => simp [insertCell, wfFrom, hlo, ha, hv]
  | cons c rest ih =>
    obtain ⟨k, w⟩ := c
    simp only [wfFrom, Bool.and_eq_true, decide_eq_true_eq] at hm
    have hk : k ≠ a := hne (k, w) (by simp)
    unfold insertCell
    by_cases hak : a < k
    · rw [if_pos hak]
      simp only [wfFrom, Bool.and_eq_true, decide_eq_true_eq, bne_iff_ne]
      exact ⟨⟨⟨hlo, ha⟩, hv⟩, ⟨⟨by omega, hm.1.1.2⟩, by simpa using hm.1.2⟩, hm.2⟩
    · rw [if_neg hak]
      simp only [wfFrom, Bool.and_eq_true, decide_eq_true_eq]
      exact ⟨hm.1, ih (by omega) (fun c hc => hne c (List.mem_cons_of_mem _ hc)) hm.2⟩

/-- A write keeps the canonical form. -/
theorem wf_write {m : Memory} (a : Addr) (v : Word) (hm : m.wf = true) : (m.write a v).wf = true := by
  unfold write
  by_cases hv : v = Config.unlistedWord
  · rw [if_pos hv]
    exact wfFrom_erase _ hm
  · rw [if_neg hv]
    exact wfFrom_insertCell (Nat.zero_le _) a.isLt hv (fun c hc => key_ne_of_mem_erase hc) (wfFrom_erase _ hm)

/-- The memory's operation of a tick keeps the canonical form. -/
theorem wf_update {m : Memory} (inp : Word) (a : Addr) (load : Bool) (hm : m.wf = true) :
    (m.update inp a load).1.wf = true := by
  cases load
  · exact hm
  · exact wf_write a inp hm

/-- The memories right after reset are in canonical form. -/
theorem wf_nil : Memory.wf [] = true := rfl

end Sys2Proof.Machine.Memory
end

