-- ==== Sys2Proof/Laws/PerInstr.lean ====
section
/-! SUPPORT. Per-instruction laws, one lemma per constructor. Family TableRowOfEncoding: the word the encoder writes
belongs to the instruction's own row of spec/opcode_table.json (its match and mask columns). -/

namespace Sys2Proof.Laws.TableRowOfEncoding

/-- The encoder's word of `i` lies in `i`'s row of the opcode table. -/
def Statement (i : Instr) : Prop := (tableRow i).covers (encode i) = true

/-- A compute word's bits outside dest and jump are the class bit, the reserved bits and the comp field. -/
theorem computeWord_masked (r : BitVec 2) (c : BitVec 7) (d : Dest) (j : Jump) :
    computeWord r c d j &&& 0x9FC0#16 = computeWord 0#2 c Dest.none Jump.none := by
  apply BitVec.eq_of_getLsbD_eq
  intro p hp
  simp only [BitVec.getLsbD_and, getLsbD_computeWord, Dest.getLsbD_bits, Jump.getLsbD_bits]
  interval_cases p <;> simp

/-- The shared step of the lemmas of compute instructions. -/
theorem covers_computeWord (p : Word) (c : BitVec 7) (d : Dest) (j : Jump)
    (h : computeWord 0#2 c Dest.none Jump.none = p) :
    (TableRow.mk p 0x9FC0#16).covers (computeWord 0b11#2 c d j) = true := by
  simp [TableRow.covers, computeWord_masked, h]

theorem atValue (v : Addr) : Statement (.atValue v) := by
  simp only [Statement, TableRow.covers, tableRow, encode, beq_iff_eq]
  apply BitVec.eq_of_getLsbD_eq
  intro p hp
  simp only [BitVec.getLsbD_and, BitVec.getLsbD_append]
  interval_cases p <;> simp
theorem zero (d : Dest) (j : Jump) : Statement (.zero d j) := covers_computeWord _ _ d j (by decide)
theorem one (d : Dest) (j : Jump) : Statement (.one d j) := covers_computeWord _ _ d j (by decide)
theorem negOne (d : Dest) (j : Jump) : Statement (.negOne d j) := covers_computeWord _ _ d j (by decide)
theorem compD (d : Dest) (j : Jump) : Statement (.compD d j) := covers_computeWord _ _ d j (by decide)
theorem compA (d : Dest) (j : Jump) : Statement (.compA d j) := covers_computeWord _ _ d j (by decide)
theorem compM (d : Dest) (j : Jump) : Statement (.compM d j) := covers_computeWord _ _ d j (by decide)
theorem notD (d : Dest) (j : Jump) : Statement (.notD d j) := covers_computeWord _ _ d j (by decide)
theorem notA (d : Dest) (j : Jump) : Statement (.notA d j) := covers_computeWord _ _ d j (by decide)
theorem notM (d : Dest) (j : Jump) : Statement (.notM d j) := covers_computeWord _ _ d j (by decide)
theorem negD (d : Dest) (j : Jump) : Statement (.negD d j) := covers_computeWord _ _ d j (by decide)
theorem negA (d : Dest) (j : Jump) : Statement (.negA d j) := covers_computeWord _ _ d j (by decide)
theorem negM (d : Dest) (j : Jump) : Statement (.negM d j) := covers_computeWord _ _ d j (by decide)
theorem dPlusOne (d : Dest) (j : Jump) : Statement (.dPlusOne d j) := covers_computeWord _ _ d j (by decide)
theorem aPlusOne (d : Dest) (j : Jump) : Statement (.aPlusOne d j) := covers_computeWord _ _ d j (by decide)
theorem mPlusOne (d : Dest) (j : Jump) : Statement (.mPlusOne d j) := covers_computeWord _ _ d j (by decide)
theorem dMinusOne (d : Dest) (j : Jump) : Statement (.dMinusOne d j) := covers_computeWord _ _ d j (by decide)
theorem aMinusOne (d : Dest) (j : Jump) : Statement (.aMinusOne d j) := covers_computeWord _ _ d j (by decide)
theorem mMinusOne (d : Dest) (j : Jump) : Statement (.mMinusOne d j) := covers_computeWord _ _ d j (by decide)
theorem dPlusA (d : Dest) (j : Jump) : Statement (.dPlusA d j) := covers_computeWord _ _ d j (by decide)
theorem dPlusM (d : Dest) (j : Jump) : Statement (.dPlusM d j) := covers_computeWord _ _ d j (by decide)
theorem dMinusA (d : Dest) (j : Jump) : Statement (.dMinusA d j) := covers_computeWord _ _ d j (by decide)
theorem dMinusM (d : Dest) (j : Jump) : Statement (.dMinusM d j) := covers_computeWord _ _ d j (by decide)
theorem aMinusD (d : Dest) (j : Jump) : Statement (.aMinusD d j) := covers_computeWord _ _ d j (by decide)
theorem mMinusD (d : Dest) (j : Jump) : Statement (.mMinusD d j) := covers_computeWord _ _ d j (by decide)
theorem dAndA (d : Dest) (j : Jump) : Statement (.dAndA d j) := covers_computeWord _ _ d j (by decide)
theorem dAndM (d : Dest) (j : Jump) : Statement (.dAndM d j) := covers_computeWord _ _ d j (by decide)
theorem dOrA (d : Dest) (j : Jump) : Statement (.dOrA d j) := covers_computeWord _ _ d j (by decide)
theorem dOrM (d : Dest) (j : Jump) : Statement (.dOrM d j) := covers_computeWord _ _ d j (by decide)
theorem comp0000001 (d : Dest) (j : Jump) : Statement (.comp0000001 d j) := covers_computeWord _ _ d j (by decide)
theorem comp0000011 (d : Dest) (j : Jump) : Statement (.comp0000011 d j) := covers_computeWord _ _ d j (by decide)
theorem comp0000100 (d : Dest) (j : Jump) : Statement (.comp0000100 d j) := covers_computeWord _ _ d j (by decide)
theorem comp0000101 (d : Dest) (j : Jump) : Statement (.comp0000101 d j) := covers_computeWord _ _ d j (by decide)
theorem comp0000110 (d : Dest) (j : Jump) : Statement (.comp0000110 d j) := covers_computeWord _ _ d j (by decide)
theorem comp0001000 (d : Dest) (j : Jump) : Statement (.comp0001000 d j) := covers_computeWord _ _ d j (by decide)
theorem comp0001001 (d : Dest) (j : Jump) : Statement (.comp0001001 d j) := covers_computeWord _ _ d j (by decide)
theorem comp0001010 (d : Dest) (j : Jump) : Statement (.comp0001010 d j) := covers_computeWord _ _ d j (by decide)
theorem comp0001011 (d : Dest) (j : Jump) : Statement (.comp0001011 d j) := covers_computeWord _ _ d j (by decide)
theorem comp0010000 (d : Dest) (j : Jump) : Statement (.comp0010000 d j) := covers_computeWord _ _ d j (by decide)
theorem comp0010001 (d : Dest) (j : Jump) : Statement (.comp0010001 d j) := covers_computeWord _ _ d j (by decide)
theorem comp0010010 (d : Dest) (j : Jump) : Statement (.comp0010010 d j) := covers_computeWord _ _ d j (by decide)
theorem comp0010100 (d : Dest) (j : Jump) : Statement (.comp0010100 d j) := covers_computeWord _ _ d j (by decide)
theorem comp0010110 (d : Dest) (j : Jump) : Statement (.comp0010110 d j) := covers_computeWord _ _ d j (by decide)
theorem comp0010111 (d : Dest) (j : Jump) : Statement (.comp0010111 d j) := covers_computeWord _ _ d j (by decide)
theorem comp0011000 (d : Dest) (j : Jump) : Statement (.comp0011000 d j) := covers_computeWord _ _ d j (by decide)
theorem comp0011001 (d : Dest) (j : Jump) : Statement (.comp0011001 d j) := covers_computeWord _ _ d j (by decide)
theorem comp0011010 (d : Dest) (j : Jump) : Statement (.comp0011010 d j) := covers_computeWord _ _ d j (by decide)
theorem comp0011011 (d : Dest) (j : Jump) : Statement (.comp0011011 d j) := covers_computeWord _ _ d j (by decide)
theorem comp0011100 (d : Dest) (j : Jump) : Statement (.comp0011100 d j) := covers_computeWord _ _ d j (by decide)
theorem comp0011101 (d : Dest) (j : Jump) : Statement (.comp0011101 d j) := covers_computeWord _ _ d j (by decide)
theorem comp0011110 (d : Dest) (j : Jump) : Statement (.comp0011110 d j) := covers_computeWord _ _ d j (by decide)
theorem comp0100000 (d : Dest) (j : Jump) : Statement (.comp0100000 d j) := covers_computeWord _ _ d j (by decide)
theorem comp0100001 (d : Dest) (j : Jump) : Statement (.comp0100001 d j) := covers_computeWord _ _ d j (by decide)
theorem comp0100010 (d : Dest) (j : Jump) : Statement (.comp0100010 d j) := covers_computeWord _ _ d j (by decide)
theorem comp0100011 (d : Dest) (j : Jump) : Statement (.comp0100011 d j) := covers_computeWord _ _ d j (by decide)
theorem comp0100100 (d : Dest) (j : Jump) : Statement (.comp0100100 d j) := covers_computeWord _ _ d j (by decide)
theorem comp0100101 (d : Dest) (j : Jump) : Statement (.comp0100101 d j) := covers_computeWord _ _ d j (by decide)
theorem comp0100110 (d : Dest) (j : Jump) : Statement (.comp0100110 d j) := covers_computeWord _ _ d j (by decide)
theorem comp0100111 (d : Dest) (j : Jump) : Statement (.comp0100111 d j) := covers_computeWord _ _ d j (by decide)
theorem comp0101000 (d : Dest) (j : Jump) : Statement (.comp0101000 d j) := covers_computeWord _ _ d j (by decide)
theorem comp0101001 (d : Dest) (j : Jump) : Statement (.comp0101001 d j) := covers_computeWord _ _ d j (by decide)
theorem comp0101011 (d : Dest) (j : Jump) : Statement (.comp0101011 d j) := covers_computeWord _ _ d j (by decide)
theorem comp0101100 (d : Dest) (j : Jump) : Statement (.comp0101100 d j) := covers_computeWord _ _ d j (by decide)
theorem comp0101101 (d : Dest) (j : Jump) : Statement (.comp0101101 d j) := covers_computeWord _ _ d j (by decide)
theorem comp0101110 (d : Dest) (j : Jump) : Statement (.comp0101110 d j) := covers_computeWord _ _ d j (by decide)
theorem comp0101111 (d : Dest) (j : Jump) : Statement (.comp0101111 d j) := covers_computeWord _ _ d j (by decide)
theorem comp0110100 (d : Dest) (j : Jump) : Statement (.comp0110100 d j) := covers_computeWord _ _ d j (by decide)
theorem comp0110101 (d : Dest) (j : Jump) : Statement (.comp0110101 d j) := covers_computeWord _ _ d j (by decide)
theorem comp0110110 (d : Dest) (j : Jump) : Statement (.comp0110110 d j) := covers_computeWord _ _ d j (by decide)
theorem comp0111000 (d : Dest) (j : Jump) : Statement (.comp0111000 d j) := covers_computeWord _ _ d j (by decide)
theorem comp0111001 (d : Dest) (j : Jump) : Statement (.comp0111001 d j) := covers_computeWord _ _ d j (by decide)
theorem comp0111011 (d : Dest) (j : Jump) : Statement (.comp0111011 d j) := covers_computeWord _ _ d j (by decide)
theorem comp0111100 (d : Dest) (j : Jump) : Statement (.comp0111100 d j) := covers_computeWord _ _ d j (by decide)
theorem comp0111101 (d : Dest) (j : Jump) : Statement (.comp0111101 d j) := covers_computeWord _ _ d j (by decide)
theorem comp0111110 (d : Dest) (j : Jump) : Statement (.comp0111110 d j) := covers_computeWord _ _ d j (by decide)
theorem comp1000001 (d : Dest) (j : Jump) : Statement (.comp1000001 d j) := covers_computeWord _ _ d j (by decide)
theorem comp1000011 (d : Dest) (j : Jump) : Statement (.comp1000011 d j) := covers_computeWord _ _ d j (by decide)
theorem comp1000100 (d : Dest) (j : Jump) : Statement (.comp1000100 d j) := covers_computeWord _ _ d j (by decide)
theorem comp1000101 (d : Dest) (j : Jump) : Statement (.comp1000101 d j) := covers_computeWord _ _ d j (by decide)
theorem comp1000110 (d : Dest) (j : Jump) : Statement (.comp1000110 d j) := covers_computeWord _ _ d j (by decide)
theorem comp1001000 (d : Dest) (j : Jump) : Statement (.comp1001000 d j) := covers_computeWord _ _ d j (by decide)
theorem comp1001001 (d : Dest) (j : Jump) : Statement (.comp1001001 d j) := covers_computeWord _ _ d j (by decide)
theorem comp1001010 (d : Dest) (j : Jump) : Statement (.comp1001010 d j) := covers_computeWord _ _ d j (by decide)
theorem comp1001011 (d : Dest) (j : Jump) : Statement (.comp1001011 d j) := covers_computeWord _ _ d j (by decide)
theorem comp1001100 (d : Dest) (j : Jump) : Statement (.comp1001100 d j) := covers_computeWord _ _ d j (by decide)
theorem comp1001101 (d : Dest) (j : Jump) : Statement (.comp1001101 d j) := covers_computeWord _ _ d j (by decide)
theorem comp1001110 (d : Dest) (j : Jump) : Statement (.comp1001110 d j) := covers_computeWord _ _ d j (by decide)
theorem comp1001111 (d : Dest) (j : Jump) : Statement (.comp1001111 d j) := covers_computeWord _ _ d j (by decide)
theorem comp1010000 (d : Dest) (j : Jump) : Statement (.comp1010000 d j) := covers_computeWord _ _ d j (by decide)
theorem comp1010001 (d : Dest) (j : Jump) : Statement (.comp1010001 d j) := covers_computeWord _ _ d j (by decide)
theorem comp1010010 (d : Dest) (j : Jump) : Statement (.comp1010010 d j) := covers_computeWord _ _ d j (by decide)
theorem comp1010100 (d : Dest) (j : Jump) : Statement (.comp1010100 d j) := covers_computeWord _ _ d j (by decide)
theorem comp1010110 (d : Dest) (j : Jump) : Statement (.comp1010110 d j) := covers_computeWord _ _ d j (by decide)
theorem comp1010111 (d : Dest) (j : Jump) : Statement (.comp1010111 d j) := covers_computeWord _ _ d j (by decide)
theorem comp1011000 (d : Dest) (j : Jump) : Statement (.comp1011000 d j) := covers_computeWord _ _ d j (by decide)
theorem comp1011001 (d : Dest) (j : Jump) : Statement (.comp1011001 d j) := covers_computeWord _ _ d j (by decide)
theorem comp1011010 (d : Dest) (j : Jump) : Statement (.comp1011010 d j) := covers_computeWord _ _ d j (by decide)
theorem comp1011011 (d : Dest) (j : Jump) : Statement (.comp1011011 d j) := covers_computeWord _ _ d j (by decide)
theorem comp1011100 (d : Dest) (j : Jump) : Statement (.comp1011100 d j) := covers_computeWord _ _ d j (by decide)
theorem comp1011101 (d : Dest) (j : Jump) : Statement (.comp1011101 d j) := covers_computeWord _ _ d j (by decide)
theorem comp1011110 (d : Dest) (j : Jump) : Statement (.comp1011110 d j) := covers_computeWord _ _ d j (by decide)
theorem comp1011111 (d : Dest) (j : Jump) : Statement (.comp1011111 d j) := covers_computeWord _ _ d j (by decide)
theorem comp1100000 (d : Dest) (j : Jump) : Statement (.comp1100000 d j) := covers_computeWord _ _ d j (by decide)
theorem comp1100001 (d : Dest) (j : Jump) : Statement (.comp1100001 d j) := covers_computeWord _ _ d j (by decide)
theorem comp1100010 (d : Dest) (j : Jump) : Statement (.comp1100010 d j) := covers_computeWord _ _ d j (by decide)
theorem comp1100011 (d : Dest) (j : Jump) : Statement (.comp1100011 d j) := covers_computeWord _ _ d j (by decide)
theorem comp1100100 (d : Dest) (j : Jump) : Statement (.comp1100100 d j) := covers_computeWord _ _ d j (by decide)
theorem comp1100101 (d : Dest) (j : Jump) : Statement (.comp1100101 d j) := covers_computeWord _ _ d j (by decide)
theorem comp1100110 (d : Dest) (j : Jump) : Statement (.comp1100110 d j) := covers_computeWord _ _ d j (by decide)
theorem comp1100111 (d : Dest) (j : Jump) : Statement (.comp1100111 d j) := covers_computeWord _ _ d j (by decide)
theorem comp1101000 (d : Dest) (j : Jump) : Statement (.comp1101000 d j) := covers_computeWord _ _ d j (by decide)
theorem comp1101001 (d : Dest) (j : Jump) : Statement (.comp1101001 d j) := covers_computeWord _ _ d j (by decide)
theorem comp1101010 (d : Dest) (j : Jump) : Statement (.comp1101010 d j) := covers_computeWord _ _ d j (by decide)
theorem comp1101011 (d : Dest) (j : Jump) : Statement (.comp1101011 d j) := covers_computeWord _ _ d j (by decide)
theorem comp1101100 (d : Dest) (j : Jump) : Statement (.comp1101100 d j) := covers_computeWord _ _ d j (by decide)
theorem comp1101101 (d : Dest) (j : Jump) : Statement (.comp1101101 d j) := covers_computeWord _ _ d j (by decide)
theorem comp1101110 (d : Dest) (j : Jump) : Statement (.comp1101110 d j) := covers_computeWord _ _ d j (by decide)
theorem comp1101111 (d : Dest) (j : Jump) : Statement (.comp1101111 d j) := covers_computeWord _ _ d j (by decide)
theorem comp1110100 (d : Dest) (j : Jump) : Statement (.comp1110100 d j) := covers_computeWord _ _ d j (by decide)
theorem comp1110101 (d : Dest) (j : Jump) : Statement (.comp1110101 d j) := covers_computeWord _ _ d j (by decide)
theorem comp1110110 (d : Dest) (j : Jump) : Statement (.comp1110110 d j) := covers_computeWord _ _ d j (by decide)
theorem comp1111000 (d : Dest) (j : Jump) : Statement (.comp1111000 d j) := covers_computeWord _ _ d j (by decide)
theorem comp1111001 (d : Dest) (j : Jump) : Statement (.comp1111001 d j) := covers_computeWord _ _ d j (by decide)
theorem comp1111010 (d : Dest) (j : Jump) : Statement (.comp1111010 d j) := covers_computeWord _ _ d j (by decide)
theorem comp1111011 (d : Dest) (j : Jump) : Statement (.comp1111011 d j) := covers_computeWord _ _ d j (by decide)
theorem comp1111100 (d : Dest) (j : Jump) : Statement (.comp1111100 d j) := covers_computeWord _ _ d j (by decide)
theorem comp1111101 (d : Dest) (j : Jump) : Statement (.comp1111101 d j) := covers_computeWord _ _ d j (by decide)
theorem comp1111110 (d : Dest) (j : Jump) : Statement (.comp1111110 d j) := covers_computeWord _ _ d j (by decide)
theorem comp1111111 (d : Dest) (j : Jump) : Statement (.comp1111111 d j) := covers_computeWord _ _ d j (by decide)

end Sys2Proof.Laws.TableRowOfEncoding
end

