-- ==== Sys2Proof/Laws/State.lean ====
section
/-! SUPPORT. One lemma per field per update of the state, and per field of the control signals. -/

namespace Sys2Proof.Machine.State

@[simp] theorem setRom_pc (s : State) (m : Memory) : (s.setRom m).pc = s.pc := rfl
@[simp] theorem setRom_regA (s : State) (m : Memory) : (s.setRom m).regA = s.regA := rfl
@[simp] theorem setRom_regD (s : State) (m : Memory) : (s.setRom m).regD = s.regD := rfl
@[simp] theorem setRom_latchL (s : State) (m : Memory) : (s.setRom m).latchL = s.latchL := rfl
@[simp] theorem setRom_memIn (s : State) (m : Memory) : (s.setRom m).memIn = s.memIn := rfl
@[simp] theorem setRom_ram (s : State) (m : Memory) : (s.setRom m).ram = s.ram := rfl
@[simp] theorem setRom_rom (s : State) (m : Memory) : (s.setRom m).rom = m := rfl
@[simp] theorem setRom_resetIn (s : State) (m : Memory) : (s.setRom m).resetIn = s.resetIn := rfl

@[simp] theorem setResetIn_pc (s : State) (r : List Bool) : (s.setResetIn r).pc = s.pc := rfl
@[simp] theorem setResetIn_regA (s : State) (r : List Bool) : (s.setResetIn r).regA = s.regA := rfl
@[simp] theorem setResetIn_regD (s : State) (r : List Bool) : (s.setResetIn r).regD = s.regD := rfl
@[simp] theorem setResetIn_latchL (s : State) (r : List Bool) : (s.setResetIn r).latchL = s.latchL := rfl
@[simp] theorem setResetIn_memIn (s : State) (r : List Bool) : (s.setResetIn r).memIn = s.memIn := rfl
@[simp] theorem setResetIn_ram (s : State) (r : List Bool) : (s.setResetIn r).ram = s.ram := rfl
@[simp] theorem setResetIn_rom (s : State) (r : List Bool) : (s.setResetIn r).rom = s.rom := rfl
@[simp] theorem setResetIn_resetIn (s : State) (r : List Bool) : (s.setResetIn r).resetIn = r := rfl

end Sys2Proof.Machine.State

namespace Sys2Proof.Machine

@[simp] theorem runTick_regA (g : Controls) (s : State) : (runTick g s).regA = newA g s := rfl
@[simp] theorem runTick_regD (g : Controls) (s : State) :
    (runTick g s).regD = registerUpdate s.regD (aluOut g s) g.loadD := rfl
@[simp] theorem runTick_latchL (g : Controls) (s : State) : (runTick g s).latchL = aluOut g s := rfl
@[simp] theorem runTick_pc (g : Controls) (s : State) :
    (runTick g s).pc = (pcUpdate s.pc (newA g s) true (jumpTaken g.jump (aluOut g s)) (resetNow s)).2 := rfl
@[simp] theorem runTick_memIn (g : Controls) (s : State) :
    (runTick g s).memIn = (s.ram.update (aluOut g s) (low15 (newA g s)) g.writeM).2 := rfl
@[simp] theorem runTick_ram (g : Controls) (s : State) :
    (runTick g s).ram = (s.ram.update (aluOut g s) (low15 (newA g s)) g.writeM).1 := rfl
@[simp] theorem runTick_rom (g : Controls) (s : State) : (runTick g s).rom = s.rom := rfl
@[simp] theorem runTick_resetIn (g : Controls) (s : State) : (runTick g s).resetIn = s.resetIn.tail := rfl

/-! The signals of the two instruction classes. -/

section
variable (y : YSource) (c : AluCtl) (d : Dest) (j : Jump) (s : State) (v : Addr)

@[simp] theorem computeControls_loadA : (computeControls y c d j s).loadA = d.dA := rfl
@[simp] theorem computeControls_sourceA : (computeControls y c d j s).sourceA = s.latchL := rfl
@[simp] theorem computeControls_y : (computeControls y c d j s).y = y := rfl
@[simp] theorem computeControls_alu : (computeControls y c d j s).alu = c := rfl
@[simp] theorem computeControls_loadD : (computeControls y c d j s).loadD = d.dD := rfl
@[simp] theorem computeControls_writeM : (computeControls y c d j s).writeM = d.dM := rfl
@[simp] theorem computeControls_jump : (computeControls y c d j s).jump = j := rfl

@[simp] theorem addressControls_loadA : (addressControls v).loadA = true := rfl
@[simp] theorem addressControls_sourceA : (addressControls v).sourceA = v.setWidth 16 := rfl
@[simp] theorem addressControls_y : (addressControls v).y = YSource.ofBit (v.getLsbD 12) := rfl
@[simp] theorem addressControls_alu : (addressControls v).alu = AluCtl.ofBits (v.extractLsb' 6 6) := rfl
@[simp] theorem addressControls_loadD : (addressControls v).loadD = false := rfl
@[simp] theorem addressControls_writeM : (addressControls v).writeM = false := rfl
@[simp] theorem addressControls_jump : (addressControls v).jump = Jump.none := rfl

end

end Sys2Proof.Machine
end

