-- ==== Sys2Proof/Laws/Safety.lean ====
section
/-! SUPPORT. Equality of contents: it is an equivalence, and the tick of the Computer sees nothing but contents. -/

namespace Sys2Proof.Machine

theorem State.SameContents.refl (s : State) : s.SameContents s := ⟨rfl, rfl, rfl, rfl, rfl, fun _ => rfl, fun _ => rfl⟩

theorem State.SameContents.symm {s t : State} (h : s.SameContents t) : t.SameContents s :=
  ⟨h.pc.symm, h.regA.symm, h.regD.symm, h.latchL.symm, h.memIn.symm, fun b => (h.ram b).symm, fun b => (h.rom b).symm⟩

theorem State.SameContents.trans {s t u : State} (h : s.SameContents t) (k : t.SameContents u) : s.SameContents u :=
  ⟨h.pc.trans k.pc, h.regA.trans k.regA, h.regD.trans k.regD, h.latchL.trans k.latchL, h.memIn.trans k.memIn,
    fun b => (h.ram b).trans (k.ram b), fun b => (h.rom b).trans (k.rom b)⟩

/-- The schedule of reset inputs is no component of the spec's state. -/
theorem State.SameContents.setResetIn (s : State) (r : List Bool) : (s.setResetIn r).SameContents s :=
  ⟨rfl, rfl, rfl, rfl, rfl, fun _ => rfl, fun _ => rfl⟩

/-- States of the same contents go to states of the same contents, with the same outputs of the CPU. -/
theorem computerTick_sameContents {s t : State} (h : s.SameContents t) (reset : Bool) :
    (computerTick reset s).1 = (computerTick reset t).1 ∧
      (computerTick reset s).2.SameContents (computerTick reset t).2 := by
  obtain ⟨hpc, ha, hd, hl, hm, hram, hrom⟩ := h
  have hcpu : cpu s.memIn (s.rom.read (low15 s.pc)) reset ⟨s.regA, s.regD, s.latchL, s.pc⟩ =
      cpu t.memIn (t.rom.read (low15 t.pc)) reset ⟨t.regA, t.regD, t.latchL, t.pc⟩ := by
    rw [hpc, ha, hd, hl, hm, hrom]
  have hwrite : ∀ (w : Bool) (a : Addr) (v : Word) (b : Addr),
      (if w then s.ram.write a v else s.ram).read b = (if w then t.ram.write a v else t.ram).read b := by
    intro w a v b
    cases w
    · exact hram b
    · simp only [if_true, Memory.read_write, hram]
  simp only [computerTick, hcpu]
  exact ⟨trivial, rfl, rfl, rfl, rfl, hwrite _ _ _ _, hwrite _ _ _, hrom⟩

end Sys2Proof.Machine
end

