-- ==== Sys2Proof/Laws/Step.lean ====
section
/-! SUPPORT. Once and for all what an instruction and a step do: one tick of the shared datapath under the instruction's
control signals. -/

namespace Sys2Proof.Machine

/-- Every compute instruction is the tick of the shared datapath under its own comp, dest and jump fields. -/
theorem exec_compInstr (a zx nx zy ny f no : Bool) (d : Dest) (j : Jump) (s : State) :
    exec (compInstr a zx nx zy ny f no d j) s =
      .next (runTick (computeControls (YSource.ofBit a) ⟨zx, nx, zy, ny, f, no⟩ d j s) s) := by
  cases a <;> cases zx <;> cases nx <;> cases zy <;> cases ny <;> cases f <;> cases no <;> rfl

/-- The address instruction is the tick under its value's signals. -/
theorem exec_atValue (v : Addr) (s : State) : exec (.atValue v) s = .next (runTick (addressControls v) s) := rfl

/-- Every instruction is one tick of the shared datapath under some control signals. -/
theorem exec_eq_runTick (i : Instr) (s : State) : ∃ g, exec i s = .next (runTick g s) := by
  cases i <;> exact ⟨_, rfl⟩

/-- A step runs the tick under the signals of the word it fetches. -/
theorem step_eq (s : State) :
    step s = .next (runTick
      (if (fetch s).getLsbD 15 then
        computeControls (YSource.ofBit ((fetch s).getLsbD 12))
          ⟨(fetch s).getLsbD 11, (fetch s).getLsbD 10, (fetch s).getLsbD 9, (fetch s).getLsbD 8, (fetch s).getLsbD 7,
            (fetch s).getLsbD 6⟩
          (destOf (fetch s)) (jumpOf (fetch s)) s
      else addressControls (valueOf (fetch s))) s) := by
  unfold step decode
  by_cases h : (fetch s).getLsbD 15 = true
  · rw [if_pos h, if_pos h, exec_compInstr]
  · rw [if_neg h, if_neg h, exec_atValue]

end Sys2Proof.Machine
end

