-- ==== Sys2Proof/Tests/Slice0.lean ====
section
/-! SUPPORT. The model's own tests: words and expected values are those of the spec (opcode_table.json's encodings,
95_test_vectors.md), never the model's own answers; and for each statement of Obligations.lean that has hypotheses a
concrete state that meets them. -/

open Sys2Proof Sys2Proof.Machine Sys2Proof.Claims

namespace Sys2Proof.Test

/-! ### Well-formedness of what the preload takes (44_computer.md R202) -/

/-- 95_test_vectors.md 1.7: the line of `@100`. -/
def line100 : Line := "0000000001100100".toList

theorem wellFormed_accepts_line : line100.wellFormed = true := by decide
theorem wellFormed_refuses_short_line : Line.wellFormed ("000000000110010".toList) = false := by decide
theorem wellFormed_refuses_long_line : Line.wellFormed ("00000000011001000".toList) = false := by decide
theorem wellFormed_refuses_bad_character : Line.wellFormed ("000000000110010x".toList) = false := by decide
theorem wellFormed_refuses_ill_formed_program : Program.wellFormed [line100, "1".toList] = false := by decide
theorem wellFormed_refuses_long_program : Program.wellFormed (List.replicate 32769 line100) = false := by
  have h : Program.fits (List.replicate 32769 line100) = false := by
    rw [Program.fits, List.length_replicate]; decide
  rw [Program.wellFormed, h, Bool.false_and]

/-- What the preload answers: the ROM word at 0 and at 1, or the refusal. -/
def preloaded (lines : List Line) : Except Refusal (Word × Word) :=
  match preload PowerOn.reference lines with
  | .next s => .ok (s.rom.read 0#15, s.rom.read 1#15)
  | .fault f => nomatch f
  | .refused r => .error r

theorem preload_places_lines :
    preloaded ["1110110000010000".toList, line100] = .ok (0xEC10#16, 0x0064#16) := by decide
theorem preload_names_the_bad_line : preloaded [line100, "01".toList] = .error (.invalidWidth 1) := by decide

/-! ### Decoding: a word written out from the table's encoding for every constructor -/

theorem decode_address :
    [0b0000000000000000#16, 0b0000000001100100#16, 0b0111111111111111#16, 0b0101010110101010#16].map decode =
      [.atValue 0#15, .atValue 100#15, .atValue 32767#15, .atValue 0x55AA#15] := by decide

/-- The first 14 named comps, each word `1 11 comp dest jump` (30_encoding.md R62, the table of R100 to R113). -/
theorem decode_named_comps_1 :
    [0b1110101010001110#16, 0b1110111111100011#16, 0b1110111010111000#16, 0b1110001100010101#16,
      0b1110110000101010#16, 0b1111110000000111#16, 0b1110001101011100#16, 0b1110110001110001#16,
      0b1111110001001111#16, 0b1110001111100100#16, 0b1110110011111001#16, 0b1111110011010110#16,
      0b1110011111101011#16, 0b1110110111000000#16].map decode =
      [.zero Dest.m Jump.jle, .one Dest.a Jump.jge, .negOne Dest.amd Jump.none, .compD Dest.d Jump.jne,
        .compA Dest.am Jump.jeq, .compM Dest.none Jump.jmp, .notD Dest.md Jump.jlt, .notA Dest.ad Jump.jgt,
        .notM Dest.m Jump.jmp, .negD Dest.a Jump.jlt, .negA Dest.amd Jump.jgt, .negM Dest.d Jump.jle,
        .dPlusOne Dest.am Jump.jge, .aPlusOne Dest.none Jump.none] := by decide

/-- The other 14 named comps (R114 to R127). -/
theorem decode_named_comps_2 :
    [0b1111110111011101#16, 0b1110001110110010#16, 0b1110110010001000#16, 0b1111110010100101#16,
      0b1110000010111010#16, 0b1111000010010111#16, 0b1110010011101100#16, 0b1111010011000001#16,
      0b1110000111011110#16, 0b1111000111110011#16, 0b1110000000001001#16, 0b1111000000100110#16,
      0b1110010101111011#16, 0b1111010101010000#16].map decode =
      [.mPlusOne Dest.md Jump.jne, .dMinusOne Dest.ad Jump.jeq, .aMinusOne Dest.m Jump.none,
        .mMinusOne Dest.a Jump.jne, .dPlusA Dest.amd Jump.jeq, .dPlusM Dest.d Jump.jmp,
        .dMinusA Dest.am Jump.jlt, .dMinusM Dest.none Jump.jgt, .aMinusD Dest.md Jump.jle,
        .mMinusD Dest.ad Jump.jge, .dAndA Dest.m Jump.jgt, .dAndM Dest.a Jump.jle, .dOrA Dest.amd Jump.jge,
        .dOrM Dest.d Jump.none] := by decide

/-- Comps without a mnemonic, operand-select bit 0 (R129). -/
theorem decode_unnamed_comps_on_a_1 :
    [0b1110000001101101#16, 0b1110000011000010#16, 0b1110000100011111#16, 0b1110000101110100#16,
      0b1110000110001010#16, 0b1110001000100111#16, 0b1110001001111100#16, 0b1110001010010001#16,
      0b1110001011101110#16, 0b1110010000000011#16, 0b1110010001011000#16, 0b1110010010110101#16,
      0b1110010100001011#16, 0b1110010110100000#16, 0b1110010111111101#16, 0b1110011000010010#16].map decode =
      [.comp0000001 Dest.am Jump.jne, .comp0000011 Dest.none Jump.jeq, .comp0000100 Dest.md Jump.jmp,
        .comp0000101 Dest.ad Jump.jlt, .comp0000110 Dest.m Jump.jeq, .comp0001000 Dest.a Jump.jmp,
        .comp0001001 Dest.amd Jump.jlt, .comp0001010 Dest.d Jump.jgt, .comp0001011 Dest.am Jump.jle,
        .comp0010000 Dest.none Jump.jge, .comp0010001 Dest.md Jump.none, .comp0010010 Dest.ad Jump.jne,
        .comp0010100 Dest.m Jump.jge, .comp0010110 Dest.a Jump.none, .comp0010111 Dest.amd Jump.jne,
        .comp0011000 Dest.d Jump.jeq] := by decide

/-- Comps without a mnemonic, operand-select bit 0 (R129). -/
theorem decode_unnamed_comps_on_a_2 :
    [0b1110011001101111#16, 0b1110011010000100#16, 0b1110011011011001#16, 0b1110011100110110#16,
      0b1110011101001100#16, 0b1110011110100001#16, 0b1110100000111110#16, 0b1110100001010011#16,
      0b1110100010101000#16, 0b1110100011000101#16, 0b1110100100011010#16, 0b1110100101110111#16,
      0b1110100110001101#16, 0b1110100111100010#16, 0b1110101000111111#16, 0b1110101001010100#16].map decode =
      [.comp0011001 Dest.am Jump.jmp, .comp0011010 Dest.none Jump.jlt, .comp0011011 Dest.md Jump.jgt,
        .comp0011100 Dest.ad Jump.jle, .comp0011101 Dest.m Jump.jlt, .comp0011110 Dest.a Jump.jgt,
        .comp0100000 Dest.amd Jump.jle, .comp0100001 Dest.d Jump.jge, .comp0100010 Dest.am Jump.none,
        .comp0100011 Dest.none Jump.jne, .comp0100100 Dest.md Jump.jeq, .comp0100101 Dest.ad Jump.jmp,
        .comp0100110 Dest.m Jump.jne, .comp0100111 Dest.a Jump.jeq, .comp0101000 Dest.amd Jump.jmp,
        .comp0101001 Dest.d Jump.jlt] := by decide

/-- Comps without a mnemonic, operand-select bit 0 (R129). -/
theorem decode_unnamed_comps_on_a_3 :
    [0b1110101011101001#16, 0b1110101100000110#16, 0b1110101101011011#16, 0b1110101110110000#16,
      0b1110101111001110#16, 0b1110110100100011#16, 0b1110110101111000#16, 0b1110110110010101#16,
      0b1110111000101010#16, 0b1110111001000111#16, 0b1110111011011100#16, 0b1110111100110001#16,
      0b1110111101001111#16, 0b1110111110100100#16].map decode =
      [.comp0101011 Dest.am Jump.jgt, .comp0101100 Dest.none Jump.jle, .comp0101101 Dest.md Jump.jge,
        .comp0101110 Dest.ad Jump.none, .comp0101111 Dest.m Jump.jle, .comp0110100 Dest.a Jump.jge,
        .comp0110101 Dest.amd Jump.none, .comp0110110 Dest.d Jump.jne, .comp0111000 Dest.am Jump.jeq,
        .comp0111001 Dest.none Jump.jmp, .comp0111011 Dest.md Jump.jlt, .comp0111100 Dest.ad Jump.jgt,
        .comp0111101 Dest.m Jump.jmp, .comp0111110 Dest.a Jump.jlt] := by decide

/-- Comps without a mnemonic, operand-select bit 1 (R129). -/
theorem decode_unnamed_comps_on_m_1 :
    [0b1111000001111001#16, 0b1111000011010110#16, 0b1111000100101011#16, 0b1111000101000000#16,
      0b1111000110011101#16, 0b1111001000110010#16, 0b1111001001001000#16, 0b1111001010100101#16,
      0b1111001011111010#16, 0b1111001100010111#16, 0b1111001101101100#16, 0b1111001110000001#16,
      0b1111001111011110#16, 0b1111010000110011#16].map decode =
      [.comp1000001 Dest.amd Jump.jgt, .comp1000011 Dest.d Jump.jle, .comp1000100 Dest.am Jump.jge,
        .comp1000101 Dest.none Jump.none, .comp1000110 Dest.md Jump.jne, .comp1001000 Dest.ad Jump.jeq,
        .comp1001001 Dest.m Jump.none, .comp1001010 Dest.a Jump.jne, .comp1001011 Dest.amd Jump.jeq,
        .comp1001100 Dest.d Jump.jmp, .comp1001101 Dest.am Jump.jlt, .comp1001110 Dest.none Jump.jgt,
        .comp1001111 Dest.md Jump.jle, .comp1010000 Dest.ad Jump.jge] := by decide

/-- Comps without a mnemonic, operand-select bit 1 (R129). -/
theorem decode_unnamed_comps_on_m_2 :
    [0b1111010001001001#16, 0b1111010010100110#16, 0b1111010100111011#16, 0b1111010110010000#16,
      0b1111010111101101#16, 0b1111011000000010#16, 0b1111011001011111#16, 0b1111011010110100#16,
      0b1111011011001010#16, 0b1111011100100111#16, 0b1111011101111100#16, 0b1111011110010001#16,
      0b1111011111101110#16, 0b1111100000000011#16].map decode =
      [.comp1010001 Dest.m Jump.jgt, .comp1010010 Dest.a Jump.jle, .comp1010100 Dest.amd Jump.jge,
        .comp1010110 Dest.d Jump.none, .comp1010111 Dest.am Jump.jne, .comp1011000 Dest.none Jump.jeq,
        .comp1011001 Dest.md Jump.jmp, .comp1011010 Dest.ad Jump.jlt, .comp1011011 Dest.m Jump.jeq,
        .comp1011100 Dest.a Jump.jmp, .comp1011101 Dest.amd Jump.jlt, .comp1011110 Dest.d Jump.jgt,
        .comp1011111 Dest.am Jump.jle, .comp1100000 Dest.none Jump.jge] := by decide

/-- Comps without a mnemonic, operand-select bit 1 (R129). -/
theorem decode_unnamed_comps_on_m_3 :
    [0b1111100001011000#16, 0b1111100010110101#16, 0b1111100011001011#16, 0b1111100100100000#16,
      0b1111100101111101#16, 0b1111100110010010#16, 0b1111100111101111#16, 0b1111101000000100#16,
      0b1111101001011001#16, 0b1111101010110110#16, 0b1111101011001100#16, 0b1111101100100001#16,
      0b1111101101111110#16, 0b1111101110010011#16].map decode =
      [.comp1100001 Dest.md Jump.none, .comp1100010 Dest.ad Jump.jne, .comp1100011 Dest.m Jump.jge,
        .comp1100100 Dest.a Jump.none, .comp1100101 Dest.amd Jump.jne, .comp1100110 Dest.d Jump.jeq,
        .comp1100111 Dest.am Jump.jmp, .comp1101000 Dest.none Jump.jlt, .comp1101001 Dest.md Jump.jgt,
        .comp1101010 Dest.ad Jump.jle, .comp1101011 Dest.m Jump.jlt, .comp1101100 Dest.a Jump.jgt,
        .comp1101101 Dest.amd Jump.jle, .comp1101110 Dest.d Jump.jge] := by decide

/-- Comps without a mnemonic, operand-select bit 1 (R129). -/
theorem decode_unnamed_comps_on_m_4 :
    [0b1111101111101000#16, 0b1111110100000101#16, 0b1111110101011010#16, 0b1111110110110111#16,
      0b1111111000001101#16, 0b1111111001100010#16, 0b1111111010111111#16, 0b1111111011010100#16,
      0b1111111100101001#16, 0b1111111101000110#16, 0b1111111110011011#16, 0b1111111111110000#16].map decode =
      [.comp1101111 Dest.am Jump.none, .comp1110100 Dest.none Jump.jne, .comp1110101 Dest.md Jump.jeq,
        .comp1110110 Dest.ad Jump.jmp, .comp1111000 Dest.m Jump.jne, .comp1111001 Dest.a Jump.jeq,
        .comp1111010 Dest.amd Jump.jmp, .comp1111011 Dest.d Jump.jlt, .comp1111100 Dest.am Jump.jgt,
        .comp1111101 Dest.none Jump.jle, .comp1111110 Dest.md Jump.jge, .comp1111111 Dest.ad Jump.none] := by decide

/-- 95_test_vectors.md 2.8: the four values of the reserved bits. -/
theorem decode_reserved_bits : [0xE7D0#16, 0xC7D0#16, 0xA7D0#16, 0x87D0#16].map decode =
    [.dPlusOne Dest.d Jump.none, .dPlusOne Dest.d Jump.none, .dPlusOne Dest.d Jump.none,
      .dPlusOne Dest.d Jump.none] := by decide
theorem decodeTableWord_of_a_word : decodeTableWord 16 0xFDE8 = some (.mPlusOne Dest.am Jump.none) := by decide
theorem decodeTableWord_refuses_two_words : decodeTableWord 32 0xFDE8 = none := by decide
theorem decodeBits_names_its_reject : decodeBits 17 0x1FDE8 = .error (.invalidWidth 17) := by rfl
/-- The spec's own words of P2 and P3: `@16`, `M=1`, `D;JGT`, `M=D+M`, `A=D`. -/
theorem encode_known :
    [Instr.atValue 16#15, .one Dest.m Jump.none, .compD Dest.none Jump.jgt, .dPlusM Dest.m Jump.none,
      .compD Dest.a Jump.none].map encode = [0x0010#16, 0xEFC8#16, 0xE301#16, 0xF088#16, 0xE320#16] := by decide

/-! ### One step on a small state -/

/-- The instruction `w` at `pc`, with the registers given and the RAM cells listed. -/
def start (pc a d l min : Word) (ram : Memory) (w : Word) : State :=
  { pc := pc, regA := a, regD := d, latchL := l, memIn := min, ram := ram,
    rom := Memory.write [] (low15 pc) w, resetIn := [] }

/-- The state after one step. -/
def after (s : State) : State :=
  match step s with
  | .next t => t
  | .fault f => nomatch f
  | .refused _ => State.reset

/-- `PC A D L Min`, as 95_test_vectors.md writes a state. -/
def regs (s : State) : Word × Word × Word × Word × Word := (s.pc, s.regA, s.regD, s.latchL, s.memIn)

/-- A cell of the table of 95_test_vectors.md 2.1: `D'`, and the flags of `L'`, after one tick of the word `w` with
`x` in D and `y` both in A and on the memory input. -/
def cell (w x y : Word) : Word × Bool × Bool :=
  let t := after (start 0#16 y x 0#16 y [] w)
  (t.regD, zr t.latchL, ng t.latchL)

/-- The four cells of a row. -/
def cells (w : Word) : List (Word × Bool × Bool) :=
  [cell w 0#16 0#16, cell w 5#16 3#16, cell w 0x7FFF#16 1#16, cell w 0x8000#16 0xFFFF#16]

/-! 95_test_vectors.md 2.1. -/

theorem alu_zero : cells 0xEA90#16 =
    [(0x0000#16, true, false), (0x0000#16, true, false),
      (0x0000#16, true, false), (0x0000#16, true, false)] := by decide
theorem alu_one : cells 0xEFD0#16 =
    [(0x0001#16, false, false), (0x0001#16, false, false),
      (0x0001#16, false, false), (0x0001#16, false, false)] := by decide
theorem alu_negOne : cells 0xEE90#16 =
    [(0xFFFF#16, false, true), (0xFFFF#16, false, true),
      (0xFFFF#16, false, true), (0xFFFF#16, false, true)] := by decide
theorem alu_compD : cells 0xE310#16 =
    [(0x0000#16, true, false), (0x0005#16, false, false),
      (0x7FFF#16, false, false), (0x8000#16, false, true)] := by decide
theorem alu_compA : cells 0xEC10#16 =
    [(0x0000#16, true, false), (0x0003#16, false, false),
      (0x0001#16, false, false), (0xFFFF#16, false, true)] := by decide
theorem alu_compM : cells 0xFC10#16 =
    [(0x0000#16, true, false), (0x0003#16, false, false),
      (0x0001#16, false, false), (0xFFFF#16, false, true)] := by decide
theorem alu_notD : cells 0xE350#16 =
    [(0xFFFF#16, false, true), (0xFFFA#16, false, true),
      (0x8000#16, false, true), (0x7FFF#16, false, false)] := by decide
theorem alu_notA : cells 0xEC50#16 =
    [(0xFFFF#16, false, true), (0xFFFC#16, false, true),
      (0xFFFE#16, false, true), (0x0000#16, true, false)] := by decide
theorem alu_notM : cells 0xFC50#16 =
    [(0xFFFF#16, false, true), (0xFFFC#16, false, true),
      (0xFFFE#16, false, true), (0x0000#16, true, false)] := by decide
theorem alu_negD : cells 0xE3D0#16 =
    [(0x0000#16, true, false), (0xFFFB#16, false, true),
      (0x8001#16, false, true), (0x8000#16, false, true)] := by decide
theorem alu_negA : cells 0xECD0#16 =
    [(0x0000#16, true, false), (0xFFFD#16, false, true),
      (0xFFFF#16, false, true), (0x0001#16, false, false)] := by decide
theorem alu_negM : cells 0xFCD0#16 =
    [(0x0000#16, true, false), (0xFFFD#16, false, true),
      (0xFFFF#16, false, true), (0x0001#16, false, false)] := by decide
theorem alu_dPlusOne : cells 0xE7D0#16 =
    [(0x0001#16, false, false), (0x0006#16, false, false),
      (0x8000#16, false, true), (0x8001#16, false, true)] := by decide
theorem alu_aPlusOne : cells 0xEDD0#16 =
    [(0x0001#16, false, false), (0x0004#16, false, false),
      (0x0002#16, false, false), (0x0000#16, true, false)] := by decide
theorem alu_mPlusOne : cells 0xFDD0#16 =
    [(0x0001#16, false, false), (0x0004#16, false, false),
      (0x0002#16, false, false), (0x0000#16, true, false)] := by decide
theorem alu_dMinusOne : cells 0xE390#16 =
    [(0xFFFF#16, false, true), (0x0004#16, false, false),
      (0x7FFE#16, false, false), (0x7FFF#16, false, false)] := by decide
theorem alu_aMinusOne : cells 0xEC90#16 =
    [(0xFFFF#16, false, true), (0x0002#16, false, false),
      (0x0000#16, true, false), (0xFFFE#16, false, true)] := by decide
theorem alu_mMinusOne : cells 0xFC90#16 =
    [(0xFFFF#16, false, true), (0x0002#16, false, false),
      (0x0000#16, true, false), (0xFFFE#16, false, true)] := by decide
theorem alu_dPlusA : cells 0xE090#16 =
    [(0x0000#16, true, false), (0x0008#16, false, false),
      (0x8000#16, false, true), (0x7FFF#16, false, false)] := by decide
theorem alu_dPlusM : cells 0xF090#16 =
    [(0x0000#16, true, false), (0x0008#16, false, false),
      (0x8000#16, false, true), (0x7FFF#16, false, false)] := by decide
theorem alu_dMinusA : cells 0xE4D0#16 =
    [(0x0000#16, true, false), (0x0002#16, false, false),
      (0x7FFE#16, false, false), (0x8001#16, false, true)] := by decide
theorem alu_dMinusM : cells 0xF4D0#16 =
    [(0x0000#16, true, false), (0x0002#16, false, false),
      (0x7FFE#16, false, false), (0x8001#16, false, true)] := by decide
theorem alu_aMinusD : cells 0xE1D0#16 =
    [(0x0000#16, true, false), (0xFFFE#16, false, true),
      (0x8002#16, false, true), (0x7FFF#16, false, false)] := by decide
theorem alu_mMinusD : cells 0xF1D0#16 =
    [(0x0000#16, true, false), (0xFFFE#16, false, true),
      (0x8002#16, false, true), (0x7FFF#16, false, false)] := by decide
theorem alu_dAndA : cells 0xE010#16 =
    [(0x0000#16, true, false), (0x0001#16, false, false),
      (0x0001#16, false, false), (0x8000#16, false, true)] := by decide
theorem alu_dAndM : cells 0xF010#16 =
    [(0x0000#16, true, false), (0x0001#16, false, false),
      (0x0001#16, false, false), (0x8000#16, false, true)] := by decide
theorem alu_dOrA : cells 0xE550#16 =
    [(0x0000#16, true, false), (0x0007#16, false, false),
      (0x7FFF#16, false, false), (0xFFFF#16, false, true)] := by decide
theorem alu_dOrM : cells 0xF550#16 =
    [(0x0000#16, true, false), (0x0007#16, false, false),
      (0x7FFF#16, false, false), (0xFFFF#16, false, true)] := by decide

/-! 95_test_vectors.md 2.2. -/

theorem alu_unnamed_1 :
    cell 0b1110000001010000#16 0x0005#16 0x0003#16 = (0xFFFE#16, false, true) ∧
    cell 0b1110000001010000#16 0x8000#16 0xFFFF#16 = (0x7FFF#16, false, false) ∧
    cell 0b1110111110010000#16 0x0005#16 0x0003#16 = (0xFFFE#16, false, true) ∧
    cell 0b1110111110010000#16 0x8000#16 0xFFFF#16 = (0xFFFE#16, false, true) ∧
    cell 0b1110101011010000#16 0x0005#16 0x0003#16 = (0xFFFF#16, false, true) ∧
    cell 0b1110101011010000#16 0x8000#16 0xFFFF#16 = (0xFFFF#16, false, true) ∧
    cell 0b1110000011010000#16 0x0005#16 0x0003#16 = (0xFFF7#16, false, true) ∧
    cell 0b1110000011010000#16 0x8000#16 0xFFFF#16 = (0x8000#16, false, true) := by decide
theorem alu_unnamed_2 :
    cell 0b1110010100010000#16 0x0005#16 0x0003#16 = (0xFFF8#16, false, true) ∧
    cell 0b1110010100010000#16 0x8000#16 0xFFFF#16 = (0x0000#16, true, false) ∧
    cell 0b1110100010010000#16 0x0005#16 0x0003#16 = (0x0003#16, false, false) ∧
    cell 0b1110100010010000#16 0x8000#16 0xFFFF#16 = (0xFFFF#16, false, true) ∧
    cell 0b1110011000010000#16 0x0005#16 0x0003#16 = (0x0000#16, true, false) ∧
    cell 0b1110011000010000#16 0x8000#16 0xFFFF#16 = (0x0000#16, true, false) ∧
    cell 0b1110110100010000#16 0x0005#16 0x0003#16 = (0xFFFC#16, false, true) ∧
    cell 0b1110110100010000#16 0x8000#16 0xFFFF#16 = (0x0000#16, true, false) := by decide

/-! 95_test_vectors.md 2.3: A' D' L' Min' RAM[7] RAM[10] for the eight dests. -/

/-- The row's state after the tick. -/
def destRow (w : Word) : List Word :=
  let t := after (start 0#16 10#16 5#16 7#16 100#16 [(10, 100#16)] w)
  [t.regA, t.regD, t.latchL, t.memIn, t.ram.read 7#15, t.ram.read 10#15]

theorem dests_keeping_a :
    destRow 0xE7C0#16 = [10#16, 5#16, 6#16, 100#16, 0#16, 100#16] ∧
    destRow 0xE7C8#16 = [10#16, 5#16, 6#16, 6#16, 0#16, 6#16] ∧
    destRow 0xE7D0#16 = [10#16, 6#16, 6#16, 100#16, 0#16, 100#16] ∧
    destRow 0xE7D8#16 = [10#16, 6#16, 6#16, 6#16, 0#16, 6#16] := by decide
theorem dests_writing_a :
    destRow 0xE7E0#16 = [7#16, 5#16, 6#16, 0#16, 0#16, 100#16] ∧
    destRow 0xE7E8#16 = [7#16, 5#16, 6#16, 6#16, 6#16, 100#16] ∧
    destRow 0xE7F0#16 = [7#16, 6#16, 6#16, 0#16, 0#16, 100#16] ∧
    destRow 0xE7F8#16 = [7#16, 6#16, 6#16, 6#16, 6#16, 100#16] := by decide

/-! 95_test_vectors.md 2.4: the program counter after `D;jump` at 3 with A = 40, for D = 5, 0, -5. -/

/-- The row's three cells. -/
def jumpRow (w : Word) : List Word :=
  [5#16, 0#16, 0xFFFB#16].map (fun d => (after (start 3#16 40#16 d 0#16 0#16 [] w)).pc)

theorem jumps_1 : jumpRow 0xE300#16 = [4#16, 4#16, 4#16] ∧ jumpRow 0xE301#16 = [40#16, 4#16, 4#16] ∧
    jumpRow 0xE302#16 = [4#16, 40#16, 4#16] ∧ jumpRow 0xE303#16 = [40#16, 40#16, 4#16] := by decide
theorem jumps_2 : jumpRow 0xE304#16 = [4#16, 4#16, 40#16] ∧ jumpRow 0xE305#16 = [40#16, 4#16, 40#16] ∧
    jumpRow 0xE306#16 = [4#16, 40#16, 40#16] ∧ jumpRow 0xE307#16 = [40#16, 40#16, 40#16] := by decide
/-- The boundary values: the greatest and the least word. -/
theorem jumps_at_the_sign_boundary :
    (after (start 3#16 40#16 0x7FFF#16 0#16 0#16 [] 0xE301#16)).pc = 40#16 ∧
    (after (start 3#16 40#16 0x8000#16 0#16 0#16 [] 0xE304#16)).pc = 40#16 := by decide
theorem jump_target_with_dest_a :
    regs (after (start 3#16 40#16 0#16 7#16 0#16 [] 0xEAA7#16)) = (7#16, 7#16, 0#16, 0#16, 0#16) := by decide
theorem jump_target_above_32767 :
    (after (start 0#16 0x8005#16 0#16 0#16 0#16 [] 0xEA87#16)).pc = 0x8005#16 := by decide
theorem reset_with_a_taken_jump :
    (after ((start 0#16 40#16 0#16 0#16 0#16 [] 0xEA87#16).setResetIn [true])).pc = 0#16 := by decide

/-! 95_test_vectors.md 2.5 and 1.5. -/

theorem counter_table :
    [(false, false, false), (true, false, false), (false, true, false), (true, true, false), (false, false, true),
      (true, false, true), (false, true, true), (true, true, true)].map
        (fun c => pcUpdate 0x0007#16 0x0064#16 c.1 c.2.1 c.2.2) =
      [(0x0007#16, 0x0007#16), (0x0007#16, 0x0008#16), (0x0007#16, 0x0064#16), (0x0007#16, 0x0064#16),
        (0x0007#16, 0#16), (0x0007#16, 0#16), (0x0007#16, 0#16), (0x0007#16, 0#16)] := by decide
theorem counter_wraps : pcUpdate 0xFFFF#16 0#16 true false false = (0xFFFF#16, 0x0000#16) ∧
    pcUpdate 0x7FFF#16 0#16 true false false = (0x7FFF#16, 0x8000#16) := by decide

/-! 95_test_vectors.md 2.6: the address instruction. -/

theorem at_0 : regs (after State.reset) = (1#16, 0#16, 0#16, 0#16, 0#16) := by decide
theorem at_5 : regs (after (start 0#16 0#16 3#16 0#16 0#16 [] 0x0005#16)) = (1#16, 5#16, 3#16, 1#16, 0#16) := by decide
theorem at_32767 : regs (after (start 0#16 0#16 3#16 0#16 0#16 [] 0x7FFF#16)) =
    (1#16, 0x7FFF#16, 3#16, 1#16, 0#16) := by decide
theorem at_100 : regs (after (start 9#16 0#16 0x1234#16 0#16 0#16 [(100, 0x00AB#16)] 0x0064#16)) =
    (10#16, 100#16, 0x1234#16, 0xFFDB#16, 0x00AB#16) := by decide

/-! 95_test_vectors.md 1.6: the CPU's outputs of scenario 1 and of the last tick of scenario 2. -/

theorem outputs_scenario_1 : cpuOutputs (start 0#16 0#16 0#16 0#16 0#16 [] 0x0064#16) =
    ⟨0xFFFF#16, false, 0x0064#16, 0#16⟩ := by decide
theorem outputs_scenario_2 : cpuOutputs (start 3#16 0x00C8#16 10#16 0xFF2D#16 0#16 [] 0xE308#16) =
    ⟨10#16, true, 0x00C8#16, 3#16⟩ := by decide

/-! 95_test_vectors.md 1.4 and 2.7: memory. -/

theorem memory_round_trip :
    let m1 := (Memory.update [] 0x1234#16 0#15 true).1
    let m2 := (Memory.update m1 0xBEEF#16 7#15 true).1
    let m3 := Memory.update m2 0x00FF#16 8#15 true
    m3.2 = 0x00FF#16 ∧ m3.1 = [(0, 0x1234#16), (7, 0xBEEF#16), (8, 0x00FF#16)] ∧
      Memory.update m3.1 0#16 7#15 false = (m3.1, 0xBEEF#16) := by decide
theorem write_of_unlisted_word_removes_the_entry : Memory.write [(7, 1#16), (8, 2#16)] 7#15 0#16 = [(8, 2#16)] := by
  decide
theorem address_bit_15_ignored :
    (after (start 0#16 0x8005#16 0#16 0#16 0#16 [] 0xEFC8#16)).ram = [(5, 1#16)] := by decide
/-- `AM=M+1` in the tick after `@10`, RAM[10] = 100. -/
theorem reads_old_a_writes_new_a :
    (after (start 1#16 10#16 0#16 0#16 100#16 [(10, 100#16)] 0xFDE8#16)).ram = [(0, 101#16), (10, 100#16)] := by decide

/-! 95_test_vectors.md 2.9 and 2.10. -/

theorem reset_does_not_suppress_the_instruction :
    let t := after ((start 5#16 9#16 0#16 0#16 0#16 [] 0xEFC8#16).setResetIn [true])
    t.pc = 0#16 ∧ t.ram.read 9#15 = 1#16 ∧ t.resetIn = [] := by decide
/-- `A=D` in the tick after `@5` with D = 3. -/
theorem dest_a_after_an_address_instruction :
    (after (start 1#16 5#16 3#16 1#16 0#16 [] 0xE320#16)).regA = 1#16 := by decide
/-- `A=A+1` with A = 10, L = 7. -/
theorem dest_a_loads_the_latch : regs (after (start 0#16 10#16 0#16 7#16 0#16 [] 0xEDE0#16)) =
    (1#16, 7#16, 0#16, 8#16, 0#16) := by decide

/-! 95_test_vectors.md 1.1, 1.2, 1.3: the component library. -/

theorem gate_truth_tables :
    [(false, false), (false, true), (true, false), (true, true)].map
      (fun p => (Gate.nand p.1 p.2, Gate.andG p.1 p.2, Gate.orG p.1 p.2, Gate.xorG p.1 p.2, Gate.demux p.1 p.2)) =
    [(true, false, false, false, (false, false)), (true, false, true, true, (false, false)),
      (true, false, true, true, (true, false)), (false, true, true, false, (false, true))] := by decide
theorem adder_examples : Gate.add16 5#16 3#16 = 8#16 ∧ Gate.add16 0xFFFF#16 1#16 = 0#16 := by decide +kernel
theorem alu_document_example :
    Gate.alu ⟨true, false, false, false, false, false⟩ 0xFFFF#16 0x5555#16 = (0#16, true, false) := by decide +kernel

/-- 44_computer.md R201: the step after reset runs the stored word, here `D=A` (`0xEC10`). -/
theorem withFetchWord_runs : regs (after (State.reset.withFetchWord 16 0xEC10)) = (1#16, 0#16, 0#16, 0#16, 0#16) ∧
    fetch (State.reset.withFetchWord 16 0xEC10) = 0xEC10#16 := by decide

/-! ### Witnesses: states and operands that meet the hypotheses of the statements, by the statement's name -/

/-- `M=D` at 3, with D = 10 and A = 200. -/
def storing : State := start 3#16 200#16 10#16 0xFF2D#16 0#16 [(100, 7#16)] 0xE308#16

theorem witness_EveryWordIsLegalAndReservedBitsIgnored : (0x8000#16 : Word).getLsbD 15 = true := by decide
theorem witness_JumpLaw_reset : resetNow (storing.setResetIn [true]) = true := by decide
theorem witness_JumpLaw_no_reset : resetNow storing = false := by decide
/-- The signed conditions at the boundaries of their ranges: 1, 0, -1, the greatest and the least word; and dests
with and without M. -/
theorem witness_JumpFieldSelectsTheCondition :
    0 < (1#16 : Word).toInt ∧ 0 < (0x7FFF#16 : Word).toInt ∧ (0#16 : Word).toInt = 0 ∧
    (0xFFFF#16 : Word).toInt < 0 ∧ (0x8000#16 : Word).toInt < 0 ∧ Dest.m.dM = true ∧
    Dest.ad.dM = false := by decide

/-- The tree that holds one word everywhere. -/
def uniformTier : (k : Nat) → Word → Tier k
  | 0, w => .reg w
  | k + 1, w => .node (fun _ => uniformTier k w)

theorem tierWord_uniformTier (k : Nat) (w : Word) (b : Addr) : tierWord (uniformTier k w) b = w := by
  induction k with
  | zero => rfl
  | succ k ih => exact ih

theorem witness_DecodeTreeIsTheFlatMemory : ∀ b, tierWord (uniformTier 5 0#16) b = Memory.read [] b :=
  fun b => tierWord_uniformTier 5 0#16 b

theorem witness_CanonicalMemoriesThatReadAlikeAreEqual :
    ∃ m n : Memory, m.wf = true ∧ n.wf = true ∧ (∀ b, m.read b = n.read b) ∧ m ≠ [] :=
  ⟨[(0, 1#16), (32767, 2#16)], [(0, 1#16), (32767, 2#16)], by decide, by decide, fun _ => rfl, by decide⟩

theorem witness_CounterPriority :
    (pcUpdate 0x0007#16 0x0064#16 true true true).2 = 0#16 ∧ (pcUpdate 0x0007#16 0x0064#16 true true false).2 = 0x0064#16 ∧
    (pcUpdate 0xFFFF#16 0x0064#16 true false false).2 = 0#16 ∧
    (pcUpdate 0x0007#16 0x0064#16 false false false).2 = 0x0007#16 := by decide

theorem witness_StepRunsTheDecodedInstruction :
    decode (storing.rom.read (low15 storing.pc)) = .compD Dest.m Jump.none := by decide

/-- A step from a state with canonical memories that stores a word: the premises of StepKeepsMemoriesCanonical,
RunsNeverChangeRom (with one step), MemoryInputIsTheWordAtA, CpuOutputsOfATick, and OnlyTheseEventsChangeState's third
clause. -/
theorem witness_a_step_that_stores :
    ∃ t, storing.Inv ∧ step storing = .next t ∧ Sys2Proof.core.run 1 storing = .next t ∧
      t.ram.read 200#15 ≠ storing.ram.read 200#15 :=
  ⟨after storing, by decide, rfl, rfl, by decide⟩

/-- OnlyTheseEventsChangeState, the other clauses: A changed by `@100` and by `A=D`, D by `D=D+1`, the program counter
by reset and by a jump. -/
theorem witness_OnlyTheseEventsChangeState_A :
    (after (start 9#16 0#16 0#16 0#16 0#16 [] 0x0064#16)).regA ≠ 0#16 ∧
    (after (start 1#16 5#16 3#16 1#16 0#16 [] 0xE320#16)).regA ≠ 5#16 := by decide
theorem witness_OnlyTheseEventsChangeState_D :
    (after (start 0#16 0#16 5#16 0#16 0#16 [] 0xE7D0#16)).regD ≠ 5#16 := by decide
theorem witness_OnlyTheseEventsChangeState_PC :
    (after ((start 5#16 9#16 0#16 0#16 0#16 [] 0xEFC8#16).setResetIn [true])).pc ≠ 6#16 ∧
    (after (start 3#16 40#16 0#16 0#16 0#16 [] 0xEA87#16)).pc ≠ 4#16 := by decide

/-- `D=D+1` at 0 with A = 200; it stores nothing. -/
def reading : State := start 0#16 200#16 5#16 7#16 100#16 [(100, 7#16), (200, 9#16)] 0xE7D0#16

/-- Another RAM that agrees with the one before the step at the updated A, 200, on a word that is not 0, and nowhere else
where either lists a word: for `M=D`, which replaces that word, and for `D=D+1`, which does not. -/
theorem witness_TickReadsOneRamWord_storing :
    ∃ t, step { storing with ram := [(100, 7#16), (200, 9#16)] } = .next t ∧
      Memory.read [(5, 1#16), (200, 9#16)] (low15 t.regA) = Memory.read [(100, 7#16), (200, 9#16)] (low15 t.regA) ∧
      Memory.read [(100, 7#16), (200, 9#16)] (low15 t.regA) = 9#16 ∧ Memory.read [(5, 1#16), (200, 9#16)] 100#15 = 0#16 :=
  ⟨after { storing with ram := [(100, 7#16), (200, 9#16)] }, rfl, by decide, by decide, by decide⟩
theorem witness_TickReadsOneRamWord :
    ∃ t, step reading = .next t ∧
      Memory.read [(5, 1#16), (200, 9#16)] (low15 t.regA) = reading.ram.read (low15 t.regA) ∧
      reading.ram.read (low15 t.regA) = 9#16 ∧ Memory.read [(5, 1#16), (200, 9#16)] 100#15 ≠ reading.ram.read 100#15 :=
  ⟨after reading, rfl, by decide, by decide, by decide⟩

theorem witness_DestAHasOneTickLatency :
    [Dest.a, Dest.am, Dest.ad, Dest.amd].all Dest.dA = true := by decide

/-- `AM=M+1` at A = 10 with L = 0 (two addresses) and with L = 10 (one address). -/
theorem witness_MemoryOperandIsAtTheOldA :
    (start 1#16 10#16 0#16 0#16 100#16 [(10, 100#16)] 0xFDE8#16).MemInCoherent ∧ low15 10#16 ≠ low15 0#16 ∧
    (start 1#16 10#16 0#16 10#16 100#16 [(10, 100#16)] 0xFDE8#16).MemInCoherent ∧ low15 10#16 = low15 10#16 := by
  refine ⟨?_, by decide, ?_, rfl⟩ <;> exact (by decide : (100#16 : Word) = Memory.read [(10, 100#16)] 10#15)

theorem witness_AddressInstructionOverwritesTheLatch :
    (start 0#16 0#16 3#16 0#16 0#16 [] 0x0005#16).regD = 3#16 := rfl

theorem witness_SelfJumpReachesAFixedPoint :
    ∃ s : State, fetch s = 0xEA87#16 ∧ low15 s.regA = low15 s.pc ∧ s.resetIn = [] :=
  ⟨start 7#16 7#16 5#16 0#16 0#16 [] 0xEA87#16, by decide, by decide, rfl⟩

/-- The idiom at the last address of the ROM, where it wraps to 0. -/
theorem witness_TwoWordIdiomAlternates :
    ∃ (s : State) (p : Addr), s.pc = 0#1 ++ p ∧ fetch s = 0#1 ++ p ∧ s.rom.read (p + 1) = 0xEA87#16 ∧ s.resetIn = [] :=
  ⟨(start 0x7FFF#16 0#16 0#16 0#16 0#16 [] 0x7FFF#16).setRom [(0, 0xEA87#16), (32767, 0x7FFF#16)], 0x7FFF#15,
    by decide, by decide, by decide, rfl⟩

/-- PreloadPlacesTheLines and ResetOnTheFirstTickStartsTheProgram: a program, from a power-on state that is not all 0;
a line in it, characters of it, and an address above it; a program without lines. -/
theorem witness_PreloadPlacesTheLines :
    Program.wellFormed [line100] = true ∧ [line100][0]? = some line100 ∧ line100[9]? = some '1' ∧
    [line100].length ≤ (1#15 : Addr).toNat := by decide
theorem witness_ResetOnTheFirstTickStartsTheProgram :
    ∃ s, preload (PowerOn.mk 9#16 1#16 2#16 3#16 4#16 [(8, 5#16)] [(1, 6#16)]) [line100] = .next s ∧
      line100[0]? = some '0' ∧ line100[9]? = some '1' := ⟨_, rfl, by decide, by decide⟩
theorem witness_ResetOnTheFirstTickStartsTheProgram_no_lines :
    ∃ s, preload (PowerOn.mk 9#16 1#16 2#16 3#16 4#16 [(8, 5#16)] [(0, 6#16)]) [] = .next s := ⟨_, rfl⟩

theorem witness_PreloadRefusesIllFormedPrograms :
    (∃ l ∈ ["01".toList], l.length ≠ 16 ∨ ∃ c ∈ l, c ≠ '0' ∧ c ≠ '1') ∧
    (∃ l ∈ ["000000000110010x".toList], l.length ≠ 16 ∨ ∃ c ∈ l, c ≠ '0' ∧ c ≠ '1') ∧
    32768 < (List.replicate 32769 line100).length := by
  refine ⟨⟨_, List.mem_singleton_self _, .inl (by decide)⟩,
    ⟨_, List.mem_singleton_self _, .inr ⟨'x', by decide, by decide⟩⟩, ?_⟩
  rw [List.length_replicate]; decide

theorem witness_StoredFetchWordIsFetched : (16 : Nat) ≤ 16 ∧ (5#15 : Addr) ≠ low15 storing.pc := by decide

/-- `0;JMP` at its own target, the self-jump of 44_computer.md R208 on its second execution. -/
def ended : State := start 5#16 5#16 9#16 0#16 0#16 [] 0xEA87#16

/-- A state that stores the word RAM[5] already holds, `M=0;JMP` at 5 with A = 5, its RAM listed with a 0. -/
def endedListingZero : State := start 5#16 5#16 0#16 0#16 0#16 [(5, 0#16)] 0xEA8F#16

theorem read_listed_zero (b : Addr) : Memory.read [] b = Memory.read [(5, 0#16)] b := by
  simp only [Memory.read, Memory.lookup]; split <;> rfl

/-- 44_computer.md R212: that tick changes no content, so the run has ended, although the list of cells changes. -/
theorem ended_by_contents : endedListingZero.Ended ∧ (computerTick false endedListingZero).2.ram ≠ endedListingZero.ram :=
  ⟨⟨rfl, rfl, rfl, rfl, rfl, read_listed_zero, fun _ => rfl⟩, by decide⟩

/-- EndedIsTheFixedPointOfTheTick: its premises, and another list of the same contents. -/
theorem witness_EndedIsTheFixedPointOfTheTick :
    ended.Inv ∧ ended.resetIn = [] ∧ ended.Ended ∧ step ended = .next ended ∧
    ({ ended with ram := [(5, 0#16)] } : State).SameContents ended :=
  ⟨by decide, rfl, .refl ended, rfl, ⟨rfl, rfl, rfl, rfl, rfl, fun b => (read_listed_zero b).symm, fun _ => rfl⟩⟩

end Sys2Proof.Test
end

section
/-! SUPPORT. Proofs of the family 10_state.md: the register of cells, what a step can change, the memory input after a
tick, and the reset state. -/

namespace Sys2Proof.Machine

/-! ### The register of 16 cells -/

@[simp] theorem Gate.getLsbD_ofBits (n : Nat) (b : Nat → Bool) (p : Nat) :
    (Gate.ofBits n b).getLsbD p = (decide (p < n) && b p) := by
  induction n with
  | zero => simp [Gate.ofBits]
  | succ n ih =>
    rw [Gate.ofBits, BitVec.getLsbD_cons, ih]
    by_cases hp : p = n
    · simp [hp]
    · simp [hp, show p < n + 1 ↔ p < n by omega]

/-- Every bit of a register goes with the register's one load signal (10_state.md R28). -/
theorem getLsbD_registerUpdate (old inp : Word) (load : Bool) (p : Nat) :
    (registerUpdate old inp load).getLsbD p = cellUpdate (old.getLsbD p) (inp.getLsbD p) load := by
  cases load <;> rfl

theorem Gate.register16_eq_registerUpdate (old inp : Word) (load : Bool) :
    Gate.register16 old inp load = registerUpdate old inp load := by
  apply BitVec.eq_of_getLsbD_eq
  intro p hp
  rw [Gate.register16, Gate.getLsbD_ofBits, getLsbD_registerUpdate, decide_eq_true hp, Bool.true_and]

/-- Settles O22: the cells agree with the register bit by bit. -/
theorem registerIsSixteenCells : Obligations.RegisterIsSixteenCells :=
  fun old inp load => ⟨Gate.register16_eq_registerUpdate old inp load, rfl⟩

/-! ### What a step can do -/

/-- What a completed step was: a tick under the signals of the fetched word, by the word's class bit. -/
theorem step_cases {s t : State} (h : step s = .next t) :
    ((fetch s).getLsbD 15 = false ∧ t = runTick (addressControls (valueOf (fetch s))) s) ∨
    ((fetch s).getLsbD 15 = true ∧
      t = runTick (computeControls (YSource.ofBit ((fetch s).getLsbD 12))
        ⟨(fetch s).getLsbD 11, (fetch s).getLsbD 10, (fetch s).getLsbD 9, (fetch s).getLsbD 8, (fetch s).getLsbD 7,
          (fetch s).getLsbD 6⟩ (destOf (fetch s)) (jumpOf (fetch s)) s) s) := by
  rw [step_eq, Host.Outcome.next.injEq] at h
  cases hc : (fetch s).getLsbD 15 with
  | false => exact .inl ⟨rfl, by rw [← h, hc]; rfl⟩
  | true => exact .inr ⟨rfl, by rw [← h, hc]; rfl⟩

/-- Whatever the word, a completed step was a tick of the shared datapath. -/
theorem exists_eq_runTick_of_step {s t : State} (h : step s = .next t) : ∃ g, t = runTick g s := by
  rcases step_cases h with ⟨-, ht⟩ | ⟨-, ht⟩ <;> exact ⟨_, ht⟩

/-! ### The memory input after a tick -/

/-- The memory is read at A after the write, so what it reports is the word now there (10_state.md R35). -/
theorem memInCoherent_runTick (g : Controls) (s : State) : (runTick g s).MemInCoherent := by
  rw [State.MemInCoherent, runTick_memIn, runTick_ram, runTick_regA, Memory.update_snd]

/-- Settles O35: every step is a tick, and a tick reads the memory at A last. -/
theorem memoryInputIsTheWordAtA : Obligations.MemoryInputIsTheWordAtA := by
  intro s t h
  obtain ⟨g, rfl⟩ := exists_eq_runTick_of_step h
  exact memInCoherent_runTick g s

/-! ### The events that change a component, for any control signals -/

theorem load_of_registerUpdate_ne {old inp : Word} {load : Bool} (h : registerUpdate old inp load ≠ old) :
    load = true ∧ registerUpdate old inp load = inp := by
  cases load with
  | false => exact absurd rfl h
  | true => exact ⟨rfl, rfl⟩

theorem Memory.load_of_read_update_ne {m : Memory} {inp : Word} {a b : Addr} {load : Bool}
    (h : (m.update inp a load).1.read b ≠ m.read b) :
    load = true ∧ b = a ∧ (m.update inp a load).1.read b = inp := by
  rw [Memory.read_update] at h ⊢
  split at h
  next hb => exact ⟨hb.1, hb.2, if_pos hb⟩
  next => exact absurd rfl h

/-- A counter that increments leaves its course by reset or by load only (41_program_counter.md R140). -/
theorem pcUpdate_ne_next {old inp : Word} {load reset : Bool} (h : (pcUpdate old inp true load reset).2 ≠ old + 1) :
    (reset = true ∧ (pcUpdate old inp true load reset).2 = 0#16) ∨
    (reset = false ∧ load = true ∧ (pcUpdate old inp true load reset).2 = inp) := by
  cases reset with
  | true => exact .inl ⟨rfl, rfl⟩
  | false =>
    cases load with
    | true => exact .inr ⟨rfl, rfl, rfl⟩
    | false => exact absurd rfl h

theorem ne_none_of_jumpTaken {j : Jump} {out : Word} (h : jumpTaken j out = true) : j ≠ Jump.none := by
  rintro rfl
  simp [jumpTaken] at h

section
variable {g : Controls} {s : State}

theorem loadA_of_runTick_regA_ne (h : (runTick g s).regA ≠ s.regA) :
    g.loadA = true ∧ (runTick g s).regA = g.sourceA :=
  load_of_registerUpdate_ne h

theorem loadD_of_runTick_regD_ne (h : (runTick g s).regD ≠ s.regD) :
    g.loadD = true ∧ (runTick g s).regD = (runTick g s).latchL :=
  load_of_registerUpdate_ne h

theorem writeM_of_runTick_read_ne {b : Addr} (h : (runTick g s).ram.read b ≠ s.ram.read b) :
    g.writeM = true ∧ b = low15 (runTick g s).regA ∧ (runTick g s).ram.read b = (runTick g s).latchL :=
  Memory.load_of_read_update_ne h

theorem reset_or_jump_of_runTick_pc_ne (h : (runTick g s).pc ≠ s.pc + 1) :
    (resetNow s = true ∧ (runTick g s).pc = 0#16) ∨
    (resetNow s = false ∧ g.jump ≠ Jump.none ∧ (runTick g s).pc = (runTick g s).regA) := by
  rcases pcUpdate_ne_next h with hreset | ⟨hreset, hjump, hpc⟩
  · exact .inl hreset
  · exact .inr ⟨hreset, ne_none_of_jumpTaken hjump, hpc⟩

end

/-! ### The same events, in the bits of the fetched word -/

/-- An address instruction's word is its own zero-extended value (42_address_instruction.md R150). -/
theorem setWidth_valueOf {w : Word} (h : w.getLsbD 15 = false) : (valueOf w).setWidth 16 = w := by
  apply BitVec.eq_of_getLsbD_eq
  intro p hp
  rw [valueOf, BitVec.getLsbD_setWidth, BitVec.getLsbD_setWidth]
  by_cases h15 : p = 15
  · simpa [h15] using h
  · simp [hp, show p < 15 by omega]

/-- Settles O36: each event of a tick asks for a control signal, and the class bit of the fetched word decides which
signals can be set. -/
theorem onlyTheseEventsChangeState : Obligations.OnlyTheseEventsChangeState := by
  intro s t h
  rcases step_cases h with ⟨hclass, rfl⟩ | ⟨hclass, rfl⟩
  case inl =>
    refine ⟨fun hA => .inl ⟨hclass, ?_⟩, fun hD => ?_, fun b hb => ?_, fun hpc => ?_⟩
    · exact (loadA_of_runTick_regA_ne hA).2.trans (setWidth_valueOf hclass)
    · exact absurd (loadD_of_runTick_regD_ne hD).1 (by simp)
    · exact absurd (writeM_of_runTick_read_ne hb).1 (by simp)
    · rcases reset_or_jump_of_runTick_pc_ne hpc with hreset | ⟨-, hjump, -⟩
      · exact .inl hreset
      · exact absurd rfl hjump
  case inr =>
    refine ⟨fun hA => .inr ⟨hclass, loadA_of_runTick_regA_ne hA⟩, fun hD => ⟨hclass, loadD_of_runTick_regD_ne hD⟩,
      fun b hb => ⟨hclass, writeM_of_runTick_read_ne hb⟩, fun hpc => ?_⟩
    rcases reset_or_jump_of_runTick_pc_ne hpc with hreset | ⟨hreset, hjump⟩
    · exact .inl hreset
    · exact .inr ⟨hreset, hclass, hjump⟩

/-! ### The reset state -/

@[simp] theorem Memory.read_nil (b : Addr) : Memory.read [] b = Config.unlistedWord := rfl

/-- Settles O33: the reset memories list nothing. -/
theorem resetMemoriesAreCanonical : Obligations.ResetMemoriesAreCanonical :=
  ⟨Memory.wf_nil, Memory.wf_nil⟩

/-- Settles O45: the registers are those of the reference power-on state, and memories that list nothing read as 0. -/
theorem resetIsTheReferencePowerOn : Obligations.ResetIsTheReferencePowerOn :=
  ⟨rfl, rfl, rfl, rfl, rfl, rfl, fun b => ⟨Memory.read_nil b, Memory.read_nil b⟩⟩

end Sys2Proof.Machine
end

section
/-! SUPPORT. Proofs of the family 20_memory.md: the decode tree, the flat memory's reads, writes and canonical form, and
what a tick and a run do with the two memories. -/

namespace Sys2Proof.Machine

/-! ### The decode tree -/

theorem Gate.mux_eq_ite (a b sel : Bool) : Gate.mux a b sel = if sel then b else a := by
  cases a <;> cases b <;> cases sel <;> rfl

/-- The 16-wide multiplexer chooses a whole word (40_alu.md R84). -/
theorem Gate.mux16_eq_ite (a b : Word) (sel : Bool) : Gate.mux16 a b sel = if sel then b else a := by
  apply BitVec.eq_of_getLsbD_eq
  intro p hp
  rw [Gate.mux16, Gate.getLsbD_ofBits, Gate.mux_eq_ite, decide_eq_true hp, Bool.true_and]
  cases sel <;> rfl

/-- The number of the child that a 3-bit slice of the address names, most significant bit first (20_memory.md R42). -/
def childOf (b : Bool × Bool × Bool) : Fin 8 :=
  ⟨4 * b.1.toNat + 2 * b.2.1.toNat + b.2.2.toNat, by
    have h2 := b.1.toNat_le
    have h1 := b.2.1.toNat_le
    have h0 := b.2.2.toNat_le
    omega⟩

theorem childOf_inj {b c : Bool × Bool × Bool} : childOf b = childOf c ↔ b = c := by
  revert b c
  decide

/-- The demultiplexers hand the load signal to the named child and to no other. -/
theorem gatedLoad_eq_true_iff (load : Bool) (b : Bool × Bool × Bool) (i : Fin 8) :
    gatedLoad load b i = true ↔ load = true ∧ i = childOf b := by
  revert load b i
  decide

/-- The multiplexers report the word of the named child. -/
theorem muxTree8_eq (v : Fin 8 → Word) (b : Bool × Bool × Bool) : muxTree8 v b = v (childOf b) := by
  obtain ⟨b2, b1, b0⟩ := b
  simp only [muxTree8, Gate.mux16_eq_ite]
  cases b2 <;> cases b1 <;> cases b0 <;> rfl

/-- An octal digit of an address is its 3-bit slice. -/
theorem childOf_tierSlice (k : Nat) (a : Addr) : (childOf (tierSlice k a)).val = a.toNat / 8 ^ k % 8 := by
  have hbit (j : Nat) : a.getLsbD (3 * k + j) = (a.toNat / 8 ^ k).testBit j := by
    rw [BitVec.getLsbD, Nat.add_comm, ← Nat.testBit_div_two_pow, Nat.pow_mul]
  have hbit0 : a.getLsbD (3 * k) = (a.toNat / 8 ^ k).testBit 0 := hbit 0
  simp only [childOf, tierSlice, hbit, hbit0, Nat.toNat_testBit]
  omega

/-- Slice by slice, the five tiers consume the whole address. -/
theorem forall_tierSlice_eq_iff {a b : Addr} : (∀ i < 5, tierSlice i b = tierSlice i a) ↔ b = a := by
  refine ⟨fun h => BitVec.eq_of_getLsbD_eq fun p hp => ?_, fun h _ _ => by rw [h]⟩
  have hslice := h (p / 3) (by omega)
  simp only [tierSlice, Prod.mk.injEq] at hslice
  obtain ⟨h2, h1, h0⟩ := hslice
  rcases (by omega : p = 3 * (p / 3) + 2 ∨ p = 3 * (p / 3) + 1 ∨ p = 3 * (p / 3)) with hp | hp | hp <;> rw [hp] <;>
    assumption

section
variable {k : Nat} (child : Fin 8 → Tier k) (inp : Word) (a : Addr) (load : Bool)

theorem tierWord_node : tierWord (.node child) a = tierWord (child (childOf (tierSlice k a))) a :=
  congrArg (fun i => tierWord (child i) a) (Fin.ext (childOf_tierSlice k a).symm)

theorem tierUpdate_node_fst : (tierUpdate (.node child) inp a load).1 =
    .node fun i => (tierUpdate (child i) inp a (gatedLoad load (tierSlice k a) i)).1 := rfl

theorem tierUpdate_node_snd : (tierUpdate (.node child) inp a load).2 =
    muxTree8 (fun i => (tierUpdate (child i) inp a (gatedLoad load (tierSlice k a) i)).2) (tierSlice k a) := rfl

end

/-- A tier reports the word it then holds at the address, whichever tier it is. -/
theorem tierUpdate_snd {k : Nat} (t : Tier k) (inp : Word) (a : Addr) (load : Bool) :
    (tierUpdate t inp a load).2 = tierWord (tierUpdate t inp a load).1 a := by
  induction t generalizing load with
  | reg old => rfl
  | node child ih => rw [tierUpdate_node_snd, muxTree8_eq, ih, tierUpdate_node_fst, tierWord_node]

/-- What a tier of height `k` holds after its operation: the input at every address whose lowest `k` slices are those of
`a`, if `load`, and the old word at every other. -/
theorem tierWord_tierUpdate {k : Nat} (t : Tier k) (inp : Word) (a b : Addr) (load : Bool) :
    tierWord (tierUpdate t inp a load).1 b =
      if load = true ∧ ∀ i < k, tierSlice i b = tierSlice i a then inp else tierWord t b := by
  induction t generalizing load with
  | reg old =>
    simp [tierUpdate, tierWord, Gate.register16_eq_registerUpdate, registerUpdate]
  | @node k child ih =>
    have hcond : (gatedLoad load (tierSlice k a) (childOf (tierSlice k b)) = true ∧
          ∀ i < k, tierSlice i b = tierSlice i a) ↔ (load = true ∧ ∀ i < k + 1, tierSlice i b = tierSlice i a) := by
      rw [gatedLoad_eq_true_iff, childOf_inj, Nat.forall_lt_succ_right, and_assoc,
        and_comm (a := tierSlice k b = tierSlice k a)]
    rw [tierUpdate_node_fst, tierWord_node, ih, tierWord_node, if_congr hcond rfl rfl]

/-- Settles O23: tree and flat memory replace the same word, and each reports the word it then holds at the address. -/
theorem decodeTreeIsTheFlatMemory : Obligations.DecodeTreeIsTheFlatMemory := by
  intro t m hsame inp a load
  have hafter (b : Addr) : tierWord (tierUpdate t inp a load).1 b = (m.update inp a load).1.read b := by
    rw [tierWord_tierUpdate, Memory.read_update, hsame, if_congr (and_congr_right' forall_tierSlice_eq_iff) rfl rfl]
  exact ⟨by rw [tierUpdate_snd, Memory.update_snd, hafter], hafter⟩

/-! ### The canonical form -/

/-- Settles O32: a tick changes the RAM by the memory's own operation, and the ROM not at all. -/
theorem stepKeepsMemoriesCanonical : Obligations.StepKeepsMemoriesCanonical := by
  rintro s t ⟨hram, hrom⟩ h
  obtain ⟨g, rfl⟩ := exists_eq_runTick_of_step h
  exact ⟨Memory.wf_update _ _ _ hram, hrom⟩

namespace Memory

theorem wfFrom_cons {lo a : Nat} {w : Word} {m : Memory} :
    wfFrom lo ((a, w) :: m) = true ↔
      lo ≤ a ∧ a < Config.memoryWords ∧ w ≠ Config.unlistedWord ∧ wfFrom (a + 1) m = true := by
  simp [wfFrom, and_assoc]

theorem lookup_cons_self (a : Nat) (w : Word) (m : Memory) : lookup a ((a, w) :: m) = w := if_pos rfl

theorem lookup_cons_of_ne {a b : Nat} (h : b ≠ a) (w : Word) (m : Memory) :
    lookup b ((a, w) :: m) = lookup b m := if_neg h

/-- A list in canonical form from `lo` on lists nothing below `lo`. -/
theorem lookup_of_lt {m : Memory} {lo a : Nat} (hm : wfFrom lo m = true) (ha : a < lo) :
    lookup a m = Config.unlistedWord := by
  induction m generalizing lo with
  | nil => rfl
  | cons c rest ih =>
    obtain ⟨hlo, -, -, hrest⟩ := wfFrom_cons.1 hm
    rw [lookup_cons_of_ne (by omega), ih hrest (by omega)]

theorem le_of_lookup_ne {m : Memory} {lo a : Nat} (hm : wfFrom lo m = true) (h : lookup a m ≠ Config.unlistedWord) :
    lo ≤ a :=
  Nat.le_of_not_lt fun ha => h (lookup_of_lt hm ha)

/-- The list is determined by what it gives at each address: the first cell by the least address that does not read as
unlisted, the rest by the addresses above it. -/
theorem eq_of_wfFrom_of_lookup_eq {m n : Memory} {lo : Nat} (hm : wfFrom lo m = true) (hn : wfFrom lo n = true)
    (h : ∀ a < Config.memoryWords, lookup a m = lookup a n) : m = n := by
  induction m generalizing n lo with
  | nil =>
    cases n with
    | nil => rfl
    | cons c rest =>
      obtain ⟨-, hlt, hne, -⟩ := wfFrom_cons.1 hn
      exact absurd ((lookup_cons_self ..).symm.trans (h _ hlt).symm) hne
  | cons c m ih =>
    obtain ⟨a, w⟩ := c
    obtain ⟨-, ha, hw, hmrest⟩ := wfFrom_cons.1 hm
    have hna := (h a ha).symm.trans (lookup_cons_self a w m)
    cases n with
    | nil => exact absurd hna.symm hw
    | cons c n =>
      obtain ⟨b, v⟩ := c
      obtain ⟨-, hb, hv, hnrest⟩ := wfFrom_cons.1 hn
      have hmb := (h b hb).trans (lookup_cons_self b v n)
      have hba : b ≤ a := le_of_lookup_ne (wfFrom_cons.2 ⟨le_rfl, hb, hv, hnrest⟩) (hna ▸ hw)
      have hab : a ≤ b := le_of_lookup_ne (wfFrom_cons.2 ⟨le_rfl, ha, hw, hmrest⟩) (hmb ▸ hv)
      obtain rfl := Nat.le_antisymm hab hba
      obtain rfl := hna.symm.trans (lookup_cons_self ..)
      rw [ih hmrest hnrest fun x hx => ?_]
      by_cases hxa : x = a
      · rw [lookup_of_lt hmrest (by omega), lookup_of_lt hnrest (by omega)]
      · simpa only [lookup_cons_of_ne hxa] using h x hx

end Memory

/-- Settles O25: every address below 32768 is an address that can be read. -/
theorem canonicalMemoriesThatReadAlikeAreEqual : Obligations.CanonicalMemoriesThatReadAlikeAreEqual :=
  fun _ _ hm hn h => Memory.eq_of_wfFrom_of_lookup_eq hm hn fun a ha => by
    simpa [Memory.read, Nat.mod_eq_of_lt (show a < 32768 from ha)] using h (BitVec.ofNat 15 a)

/-! ### Reads, writes and addresses -/

/-- Settles O24, by induction on the number of writes: the last one decides, or else those before it. -/
theorem readReturnsTheLatestWrite : Obligations.ReadReturnsTheLatestWrite := by
  intro m ws b
  induction ws using List.reverseRecOn with
  | nil => rfl
  | append_singleton ws w ih =>
    rw [List.foldl_append, List.foldl_cons, List.foldl_nil, Memory.read_write, ih, List.reverse_concat]
    by_cases hw : w.1 = b
    · rw [if_pos hw.symm, List.find?_cons_of_pos (by simpa using hw)]
    · rw [if_neg (Ne.symm hw), List.find?_cons_of_neg (by simpa using hw)]

/-- Adding 32768 changes bit 15 only (the spec's decision D3). -/
theorem low15_add_bit15 (v : Word) : low15 (v + 0x8000#16) = low15 v := by
  apply BitVec.eq_of_toNat_eq
  simp only [low15, BitVec.toNat_setWidth, BitVec.toNat_add, BitVec.toNat_ofNat]
  omega

/-- The comp `D` passes the first operand through (40_alu.md R103). -/
theorem alu_compD (x y : Word) : alu (AluCtl.ofBits 0b001100#6) x y = x := by
  have hones : aluPre true true y = BitVec.allOnes 16 := BitVec.not_zero
  exact (congrArg (x &&& ·) hones).trans BitVec.and_allOnes

theorem exec_compD (d : Dest) (j : Jump) (s : State) :
    exec (.compD d j) s = .next (runTick (computeControls .regA (AluCtl.ofBits 0b001100#6) d j s) s) := rfl

/-- `M=D` does to the memory what its one operation does with D at A. -/
theorem exec_compD_m (j : Jump) (s : State) : ∃ t, exec (.compD Dest.m j) s = .next t ∧
    t.ram = (s.ram.update s.regD (low15 s.regA) true).1 ∧ t.memIn = (s.ram.update s.regD (low15 s.regA) true).2 := by
  refine ⟨_, exec_compD Dest.m j s, ?_, ?_⟩ <;> simp [newA, registerUpdate, aluOut, operandX, alu_compD]

/-- Settles O26: memories are addressed through the low 15 bits. -/
theorem addressBit15IsNotUsed : Obligations.AddressBit15IsNotUsed := by
  intro v s j
  obtain ⟨t, ht, htram, htmem⟩ := exec_compD_m j { s with regA := v }
  obtain ⟨u, hu, huram, humem⟩ := exec_compD_m j { s with regA := v + 0x8000#16 }
  simp only [low15_add_bit15] at huram humem
  refine ⟨by simp only [fetch, low15_add_bit15], t, u, ht, hu, fun b => ?_, huram.trans htram.symm,
    humem.trans htmem.symm⟩
  rw [htram, Memory.read_update]
  simp

/-! ### Runs and the instruction memory -/

section
variable {M : Host.Core}

/-- A run of one step more is a step and a run from where it ends. -/
theorem exists_step_of_run_succ {k : Nat} {s t : M.State} (h : M.run (k + 1) s = .next t) :
    ∃ u, M.step s = .next u ∧ M.run k u = .next t := by
  rw [Host.Core.run] at h
  cases hstep : M.step s with
  | next u => exact ⟨u, rfl, by rwa [hstep] at h⟩
  | fault r => rw [hstep] at h; cases h
  | refused r => rw [hstep] at h; cases h

/-- What every step keeps, every run keeps. -/
theorem run_keeps {P : M.State → Prop} (hstep : ∀ {s t}, P s → M.step s = .next t → P t) {k : Nat} {s t : M.State}
    (hs : P s) (h : M.run k s = .next t) : P t := by
  induction k generalizing s with
  | zero => exact Host.Outcome.next.inj h ▸ hs
  | succ k ih =>
    obtain ⟨u, hu, hrun⟩ := exists_step_of_run_succ h
    exact ih (hstep hs hu) hrun

end

theorem rom_of_step {s t : State} (h : step s = .next t) : t.rom = s.rom := by
  obtain ⟨g, rfl⟩ := exists_eq_runTick_of_step h
  exact runTick_rom g s

/-- Settles O34: no step changes the instruction memory (20_memory.md R57). -/
theorem runsNeverChangeRom : Obligations.RunsNeverChangeRom :=
  fun _ s _ h => run_keeps (P := fun u : State => u.rom = s.rom) (fun hs hu => (rom_of_step hu).trans hs) rfl h

/-! ### The one word of RAM that a tick depends on -/

/-- A step under another RAM runs the tick under the same signals: neither the fetch nor the decoder reads RAM. -/
theorem step_with_ram {s t : State} (m : Memory) (h : step s = .next t) :
    ∃ g, t = runTick g s ∧ step { s with ram := m } = .next (runTick g { s with ram := m }) :=
  ⟨_, (Host.Outcome.next.inj ((step_eq s).symm.trans h)).symm, step_eq { s with ram := m }⟩

theorem Memory.update_snd_congr {m n : Memory} {a : Addr} (h : m.read a = n.read a) (inp : Word) (load : Bool) :
    (m.update inp a load).2 = (n.update inp a load).2 := by
  rw [update_snd, update_snd, read_update, read_update, h]

theorem runTick_with_ram (g : Controls) {s : State} {m : Memory}
    (h : m.read (low15 (newA g s)) = s.ram.read (low15 (newA g s))) :
    { runTick g { s with ram := m } with ram := (runTick g s).ram } = runTick g s := by
  have hmem : (runTick g { s with ram := m }).memIn = (runTick g s).memIn := Memory.update_snd_congr h _ _
  exact congrArg (fun v => { runTick g s with memIn := v }) hmem

/-- Settles O38: of RAM a tick reports the word at the updated A, and nothing else but RAM depends on it. -/
theorem tickReadsOneRamWord : Obligations.TickReadsOneRamWord := by
  intro s t m h hread
  obtain ⟨g, rfl, hstep⟩ := step_with_ram m h
  exact ⟨_, hstep, runTick_with_ram g hread⟩

end Sys2Proof.Machine
end

section
/-! SUPPORT. Proofs of the family 30_encoding.md: the decoder and the encoder undo each other up to the reserved bits,
and the opcode table's rows follow the decoder. -/

namespace Sys2Proof

open Sys2Proof.Machine

/-! ### The words of the two classes -/

/-- A word of class 1 is the bit picture of its own fields (30_encoding.md R62). -/
theorem exists_eq_computeWord {w : Word} (h : w.getLsbD 15 = true) : ∃ r c d j, w = computeWord r c d j := by
  refine ⟨w.extractLsb' 13 2, w.extractLsb' 6 7, destOf w, jumpOf w, BitVec.eq_of_getLsbD_eq fun p hp => ?_⟩
  rw [getLsbD_computeWord, Dest.getLsbD_bits, Jump.getLsbD_bits]
  interval_cases p <;> simp [destOf, jumpOf, h]

theorem getLsbD_computeWord_classBit (r : BitVec 2) (c : BitVec 7) (d : Dest) (j : Jump) :
    (computeWord r c d j).getLsbD 15 = true := getLsbD_computeWord r c d j 15

theorem getLsbD_addressWord_classBit (v : Addr) : (0#1 ++ v).getLsbD 15 = false := by
  rw [BitVec.getLsbD_append]; rfl

/-- What the decoder reads from the word of an address instruction (30_encoding.md R63): its value. -/
theorem decode_addressWord (v : Addr) : decode (0#1 ++ v) = .atValue v := by
  rw [decode, getLsbD_addressWord_classBit]
  exact congrArg Instr.atValue (BitVec.setWidth_append_eq_right)

theorem addressWord_valueOf {w : Word} (h : w.getLsbD 15 = false) : 0#1 ++ valueOf w = w :=
  (BitVec.setWidth_eq_append (by decide : 15 ≤ 16)).symm.trans (setWidth_valueOf h)

theorem decode_of_classBit_false {w : Word} (h : w.getLsbD 15 = false) : decode w = .atValue (valueOf w) := by
  rw [decode, h]; rfl

/-! ### The round trips -/

/-- Settles O1: each word's fields are read off. -/
theorem decodeOfKnownWords : Obligations.DecodeOfKnownWords := ⟨rfl, rfl, rfl, rfl, rfl, rfl⟩

/-- Settles O2: the encoder writes an address word or a compute word, and the decoder reads the fields of both. -/
theorem decodeOfEncodeIsTheInstruction : Obligations.DecodeOfEncodeIsTheInstruction := by
  intro i
  cases i
  case atValue v => exact decode_addressWord v
  all_goals exact decode_computeWord 0b11#2 _ _ _

/-- The encoder writes back each comp field, in the table's order of its bits (30_encoding.md R62). -/
theorem encode_compInstr (a zx nx zy ny f no : Bool) (d : Dest) (j : Jump) :
    encode (compInstr a zx nx zy ny f no d j) =
      computeWord 0b11#2 (BitVec.ofBoolListBE [a, zx, nx, zy, ny, f, no]) d j := by
  cases a <;> cases zx <;> cases nx <;> cases zy <;> cases ny <;> cases f <;> cases no <;> rfl

theorem ofBoolListBE_getLsbD (c : BitVec 7) :
    BitVec.ofBoolListBE [c.getLsbD 6, c.getLsbD 5, c.getLsbD 4, c.getLsbD 3, c.getLsbD 2, c.getLsbD 1,
      c.getLsbD 0] = c := by
  apply BitVec.eq_of_getLsbD_eq
  intro p hp
  change p < 7 at hp
  rw [BitVec.getLsbD_ofBoolListBE]
  interval_cases p <;> rfl

/-- Decoding and encoding a compute word changes its reserved bits only, to 11 (the spec's decision D2). -/
theorem encode_decode_computeWord (r : BitVec 2) (c : BitVec 7) (d : Dest) (j : Jump) :
    encode (decode (computeWord r c d j)) = computeWord 0b11#2 c d j := by
  rw [decode_computeWord, encode_compInstr, ofBoolListBE_getLsbD]

theorem encode_decode_of_classBit_false {w : Word} (h : w.getLsbD 15 = false) : encode (decode w) = w := by
  rw [decode_of_classBit_false h]
  exact addressWord_valueOf h

/-- Replacing the bits 14 and 13 of a compute word replaces its reserved field. -/
theorem setReserved_computeWord (r r' : BitVec 2) (c : BitVec 7) (d : Dest) (j : Jump) :
    (computeWord r c d j &&& 0x9FFF#16) ||| (r'.setWidth 16 <<< 13) = computeWord r' c d j := by
  apply BitVec.eq_of_getLsbD_eq
  intro p hp
  simp only [BitVec.getLsbD_or, BitVec.getLsbD_and, getLsbD_computeWord]
  interval_cases p <;> simp

theorem computeWord_or_reserved (r : BitVec 2) (c : BitVec 7) (d : Dest) (j : Jump) :
    computeWord r c d j ||| 0x6000#16 = computeWord 0b11#2 c d j := by
  apply BitVec.eq_of_getLsbD_eq
  intro p hp
  simp only [BitVec.getLsbD_or, getLsbD_computeWord]
  interval_cases p <;> simp

/-- Settles O3: by the class bit, and for a compute word by its fields. -/
theorem encodeOfDecodeIsTheWord : Obligations.EncodeOfDecodeIsTheWord := by
  intro w
  cases h : w.getLsbD 15 with
  | false => exact encode_decode_of_classBit_false h
  | true =>
    obtain ⟨r, c, d, j, rfl⟩ := exists_eq_computeWord h
    exact (encode_decode_computeWord r c d j).trans (computeWord_or_reserved r c d j).symm

/-- Settles O4: every instruction is one tick, and the decoder reads the comp, dest and jump fields only. -/
theorem everyWordIsLegalAndReservedBitsIgnored : Obligations.EveryWordIsLegalAndReservedBitsIgnored := by
  refine ⟨fun w s => ?_, fun w r h => ?_⟩
  · obtain ⟨g, hg⟩ := exec_eq_runTick (decode w) s
    exact ⟨_, hg⟩
  · obtain ⟨r₀, c, d, j, rfl⟩ := exists_eq_computeWord h
    rw [setReserved_computeWord, decode_computeWord, decode_computeWord]

/-! ### The rows of the opcode table -/

/-- The bits of a word that tell its row of the opcode table: of an address word the class bit, of a compute word the
class bit and the comp field (30_encoding.md R67). -/
def rowMask (w : Word) : Word := if w.getLsbD 15 then 0x9FC0#16 else 0x8000#16

/-- The row of the opcode table that a word's own bits name. -/
def rowOf (w : Word) : TableRow := ⟨w &&& rowMask w, rowMask w⟩

theorem rowOf_computeWord (r : BitVec 2) (c : BitVec 7) (d : Dest) (j : Jump) :
    rowOf (computeWord r c d j) = ⟨computeWord 0#2 c Dest.none Jump.none, 0x9FC0#16⟩ := by
  rw [rowOf, rowMask, getLsbD_computeWord_classBit, if_pos rfl, Laws.TableRowOfEncoding.computeWord_masked]

theorem rowOf_of_classBit_false {w : Word} (h : w.getLsbD 15 = false) : rowOf w = ⟨0x0000#16, 0x8000#16⟩ := by
  have hmask : rowMask w = BitVec.twoPow 16 15 := by rw [rowMask, h]; rfl
  rw [rowOf, hmask, BitVec.and_twoPow, h]; rfl

/-- The opcode table gives each instruction the row that its word names. -/
theorem tableRow_eq_rowOf_encode (i : Instr) : tableRow i = rowOf (encode i) := by
  cases i
  case atValue v => exact (rowOf_of_classBit_false (getLsbD_addressWord_classBit v)).symm
  all_goals rw [encode, rowOf_computeWord]; rfl

/-- A word decodes to an instruction of the row that it names: rows do not see the reserved bits. -/
theorem tableRow_decode (w : Word) : tableRow (decode w) = rowOf w := by
  rw [tableRow_eq_rowOf_encode]
  cases h : w.getLsbD 15 with
  | false => rw [encode_decode_of_classBit_false h]
  | true =>
    obtain ⟨r, c, d, j, rfl⟩ := exists_eq_computeWord h
    rw [encode_decode_computeWord, rowOf_computeWord, rowOf_computeWord]

theorem getLsbD_rowMask_classBit (w : Word) : (rowMask w).getLsbD 15 = true := by
  rw [rowMask]; split <;> rfl

/-- Two words that agree under the mask of one of them name the same row, since each mask has the class bit. -/
theorem covers_rowOf_iff (w e : Word) : (rowOf e).covers w = true ↔ rowOf w = rowOf e := by
  rw [TableRow.covers, beq_iff_eq]
  constructor
  · intro h
    have hclass : w.getLsbD 15 = e.getLsbD 15 := by
      simpa only [rowOf, BitVec.getLsbD_and, getLsbD_rowMask_classBit, Bool.and_true] using congrArg (·.getLsbD 15) h
    have hmask : rowMask w = rowMask e := by rw [rowMask, hclass, ← rowMask]
    rw [rowOf, hmask]
    exact congrArg (TableRow.mk · (rowMask e)) h
  · intro h
    rw [← h]
    rfl

/-- Settles O5: both rows are those that words name, the word itself and the instruction's encoding. -/
theorem decodeFollowsTheOpcodeTable : Obligations.DecodeFollowsTheOpcodeTable := by
  intro w i
  rw [tableRow_decode, tableRow_eq_rowOf_encode i]
  exact covers_rowOf_iff w (encode i)

end Sys2Proof
end

section
/-! SUPPORT. Proofs of the family 40_alu.md: the gate library, the adder and the ALU built of it, the flags, the closed
forms of the ALU, and the comps as instructions. -/

namespace Sys2Proof.Machine

open Sys2Proof.Claims

/-! ### The gate library -/

theorem Gate.notG_eq (a : Bool) : Gate.notG a = !a := by cases a <;> rfl
theorem Gate.andG_eq (a b : Bool) : Gate.andG a b = (a && b) := by cases a <;> cases b <;> rfl
theorem Gate.orG_eq (a b : Bool) : Gate.orG a b = (a || b) := by cases a <;> cases b <;> rfl
theorem Gate.xorG_eq (a b : Bool) : Gate.xorG a b = (a != b) := by cases a <;> cases b <;> rfl

theorem Gate.demux_eq_ite (a sel : Bool) : Gate.demux a sel = if sel then (false, a) else (a, false) := by
  cases a <;> cases sel <;> rfl

/-- A word built bit by bit is the word that has those bits. -/
theorem Gate.ofBits_eq {b : Nat → Bool} {w : Word} (h : ∀ p < 16, b p = w.getLsbD p) : Gate.ofBits 16 b = w := by
  apply BitVec.eq_of_getLsbD_eq
  intro p hp
  rw [Gate.getLsbD_ofBits, decide_eq_true hp, Bool.true_and, h p hp]

theorem Gate.and16_eq (x y : Word) : Gate.and16 x y = x &&& y :=
  Gate.ofBits_eq fun p _ => by rw [Gate.andG_eq, BitVec.getLsbD_and]

theorem Gate.or16_eq (x y : Word) : Gate.or16 x y = x ||| y :=
  Gate.ofBits_eq fun p _ => by rw [Gate.orG_eq, BitVec.getLsbD_or]

theorem Gate.not16_eq (x : Word) : Gate.not16 x = ~~~x :=
  Gate.ofBits_eq fun p hp => by rw [Gate.notG_eq, BitVec.getLsbD_not, decide_eq_true hp, Bool.true_and]

/-- The cascade is 0 when none of the bits it has seen is set (40_alu.md R85). -/
theorem Gate.orCascade_eq_false_iff (x : Word) (n : Nat) :
    Gate.orCascade x n = false ↔ ∀ p < n, x.getLsbD p = false := by
  induction n with
  | zero => simp [Gate.orCascade]
  | succ n ih => rw [Gate.orCascade, Gate.orG_eq, Bool.or_eq_false_iff, ih, Nat.forall_lt_succ_right, and_comm]

theorem Gate.iszero16_iff (x : Word) : Gate.iszero16 x = true ↔ x = 0#16 := by
  rw [Gate.iszero16, Gate.notG_eq, Bool.not_eq_true', Gate.orCascade_eq_false_iff]
  refine ⟨fun h => BitVec.eq_of_getLsbD_eq fun p hp => ?_, fun h p _ => ?_⟩
  · rw [h p hp, BitVec.getLsbD_zero]
  · rw [h, BitVec.getLsbD_zero]

/-- Settles O19: the gates by their truth tables, the 16-wide operations bit by bit. -/
theorem gateLibraryMeetsItsFunctions : Obligations.GateLibraryMeetsItsFunctions :=
  ⟨by decide, fun a b => ⟨Gate.notG_eq a, Gate.andG_eq a b, Gate.orG_eq a b, Gate.xorG_eq a b⟩,
    fun a b sel => ⟨Gate.mux_eq_ite a b sel, Gate.demux_eq_ite a sel⟩,
    fun x y => ⟨Gate.and16_eq x y, Gate.or16_eq x y, Gate.not16_eq x, Gate.mux16_eq_ite x y, Gate.iszero16_iff x⟩⟩

/-! ### The ripple adder -/

/-- A full adder's outputs are the two binary digits of the sum of its inputs (40_alu.md R86). -/
theorem Gate.fullAdder_digits (a b c : Bool) :
    (Gate.fullAdder a b c).1.toNat + 2 * (Gate.fullAdder a b c).2.toNat = a.toNat + b.toNat + c.toNat := by
  revert a b c
  decide

theorem Gate.fullAdder_eq (a b c : Bool) : Gate.fullAdder a b c = (a ^^ (b ^^ c), a.atLeastTwo b c) := by
  revert a b c
  decide

/-- The chain carries into each position what addition of the bits below it carries. -/
theorem Gate.carryInto_eq_carry (x y : Word) (p : Nat) : Gate.carryInto x y p = BitVec.carry p x y false := by
  induction p with
  | zero => exact (BitVec.carry_zero ..).symm
  | succ p ih => rw [Gate.carryInto, Gate.fullAdder_eq, BitVec.carry_succ, ih]

theorem Gate.add16_eq (x y : Word) : Gate.add16 x y = x + y :=
  Gate.ofBits_eq fun p hp => by rw [Gate.fullAdder_eq, Gate.carryInto_eq_carry, BitVec.getLsbD_add hp]

/-- Settles O20: the chain is addition of words, which is modulo 2^16 in both readings. -/
theorem rippleAdderIsAddition : Obligations.RippleAdderIsAddition := by
  refine ⟨Gate.fullAdder_digits, fun x y => ⟨Gate.add16_eq x y, ?_, ?_, Gate.add16_eq x 1#16⟩⟩
  · rw [Gate.add16_eq]
    exact BitVec.toNat_add x y
  · rw [Gate.add16_eq]
    exact BitVec.toInt_add x y

/-! ### The ALU built of gates -/

theorem Gate.iszero16_eq_zr (x : Word) : Gate.iszero16 x = zr x :=
  Bool.eq_iff_iff.2 ((Gate.iszero16_iff x).trans beq_iff_eq.symm)

/-- Stage by stage the circuit computes the word-level ALU, and its flags are those of its output. -/
theorem Gate.alu_eq (c : AluCtl) (x y : Word) :
    Gate.alu c x y = (Machine.alu c x y, zr (Machine.alu c x y), ng (Machine.alu c x y)) := by
  simp only [Gate.alu, Gate.mux16_eq_ite, Gate.not16_eq, Gate.and16_eq, Gate.add16_eq, Gate.iszero16_eq_zr,
    Machine.alu, aluPre, ng]

/-- Settles O21: the stages of 40_alu.md R90 are those of the machine's ALU. -/
theorem gateAluIsTheAlu : Obligations.GateAluIsTheAlu :=
  fun c x y => ⟨Gate.alu_eq c x y, rfl⟩

/-! ### The flags and the jump decision -/

theorem zr_iff_toInt (out : Word) : zr out = true ↔ out.toInt = 0 := by
  rw [zr, beq_iff_eq, ← BitVec.toInt_inj, BitVec.toInt_zero]

theorem zr_iff_toNat (out : Word) : zr out = true ↔ out.toNat = 0 :=
  beq_iff_eq.trans (BitVec.toNat_eq (y := 0#16))

/-- Bit 15 is the sign (00_scope.md R7). -/
theorem ng_iff (out : Word) : ng out = true ↔ out.toInt < 0 := by
  have hmsb : ng out = out.msb := (BitVec.msb_eq_getLsbD_last out).symm
  rw [hmsb, BitVec.msb_eq_toInt, decide_eq_true_iff]

theorem not_ng_and_not_zr_iff (out : Word) : (!ng out && !zr out) = true ↔ 0 < out.toInt := by
  rw [Bool.and_eq_true, Bool.not_eq_true', Bool.not_eq_true', ← Bool.not_eq_true, ← Bool.not_eq_true, ng_iff,
    zr_iff_toInt]
  omega

/-- Settles O18: both flags in terms of the signed value. -/
theorem flagsAreTheSign : Obligations.FlagsAreTheSign := by
  intro out
  refine ⟨zr_iff_toNat out, rfl, ng_iff out, ?_, not_ng_and_not_zr_iff out⟩
  rintro ⟨hzr, hng⟩
  rw [zr_iff_toInt] at hzr
  rw [ng_iff] at hng
  omega

/-- The jump is taken on the sign of the output (43_compute_instruction.md R168). -/
theorem jumpTaken_iff (j : Jump) (out : Word) : jumpTaken j out = true ↔ JumpCond j out := by
  rw [jumpTaken, Bool.and_assoc, Bool.or_eq_true, Bool.or_eq_true, Bool.and_eq_true, Bool.and_eq_true,
    Bool.and_eq_true, not_ng_and_not_zr_iff, ng_iff, zr_iff_toInt, JumpCond, or_assoc]

/-! ### The closed forms of the ALU -/

section
variable (v : Word)

theorem aluPre_keep : aluPre false false v = v := rfl
theorem aluPre_not : aluPre false true v = ~~~v := rfl
theorem aluPre_zero : aluPre true false v = 0#16 := rfl
theorem aluPre_ones : aluPre true true v = -1#16 :=
  BitVec.not_zero.trans BitVec.neg_one_eq_allOnes.symm

theorem and_neg_one : v &&& -1#16 = v := by rw [BitVec.neg_one_eq_allOnes, BitVec.and_allOnes]
theorem neg_one_and : -1#16 &&& v = v := by rw [BitVec.neg_one_eq_allOnes, BitVec.allOnes_and]

end

section
variable (zx nx zy ny : Bool) (x y : Word)

theorem alu_and : alu ⟨zx, nx, zy, ny, false, false⟩ x y = aluPre zx nx x &&& aluPre zy ny y := rfl
theorem alu_nand : alu ⟨zx, nx, zy, ny, false, true⟩ x y = ~~~(aluPre zx nx x &&& aluPre zy ny y) := rfl
theorem alu_add : alu ⟨zx, nx, zy, ny, true, false⟩ x y = aluPre zx nx x + aluPre zy ny y := rfl
theorem alu_not_add : alu ⟨zx, nx, zy, ny, true, true⟩ x y = ~~~(aluPre zx nx x + aluPre zy ny y) := rfl

end

/-- Settles O17: each operand is its word, that word's complement, 0 or -1. Under AND the laws of bitwise operations are
enough; under addition the rest is linear arithmetic modulo 2^16. -/
theorem aluClosedForms : Obligations.AluClosedForms := by
  intro x y
  and_intros
  all_goals simp only [AluCtl.ofBits, BitVec.reduceGetLsb, alu_and, alu_nand, alu_add, alu_not_add, aluPre_keep,
    aluPre_not, aluPre_zero, aluPre_ones, BitVec.zero_and, BitVec.and_zero, neg_one_and, and_neg_one, BitVec.not_and,
    BitVec.not_not, BitVec.zero_add, BitVec.add_zero]
  all_goals bv_omega

/-! ### The comps as instructions

Each statement below is a list of rows of the opcode table. A row holds by `means_of_alu`: the decoder reads the row's
instruction from its comp field, and the ALU's closed form under that field is the row's function. -/

/-- The tick of a compute instruction has the whole effect that its ALU output gives it (43_compute_instruction.md
R160). -/
theorem computeEffect_runTick (y : YSource) (c : AluCtl) (d : Dest) (j : Jump) (s : State) :
    ComputeEffect d j (aluOut (computeControls y c d j s) s) s (runTick (computeControls y c d j s) s) where
  regA := rfl
  regD := rfl
  latchL := rfl
  pc := if_congr Iff.rfl rfl (if_congr (jumpTaken_iff ..) rfl rfl)
  ram := fun b => Memory.read_update ..
  memIn := by
    rw [runTick_memIn, Memory.update_snd, Memory.read_update]
    exact if_congr (and_iff_left rfl) rfl rfl
  rom := rfl
  resetIn := rfl

/-- The operands of a compute instruction: D, and the updated A or the memory input (R164, R165). -/
theorem aluOut_computeControls (a : Bool) (c : AluCtl) (d : Dest) (j : Jump) (s : State) :
    aluOut (computeControls (YSource.ofBit a) c d j s) s = alu c s.regD (if a then s.memIn else newAOf d s) := by
  cases a <;> rfl

theorem AluCtl.ofBits_extractLsb' (c : BitVec 7) :
    AluCtl.ofBits (c.extractLsb' 0 6) =
      ⟨c.getLsbD 5, c.getLsbD 4, c.getLsbD 3, c.getLsbD 2, c.getLsbD 1, c.getLsbD 0⟩ := by
  simp [AluCtl.ofBits]

/-- What a comp field means: the instruction that the decoder reads from it, and the ALU's function under its low six
bits (R169). -/
theorem means_of_alu {c : BitVec 7} {i : Dest → Jump → Instr} {f : Word → Word → Word}
    (hi : ∀ d j, compInstr (c.getLsbD 6) (c.getLsbD 5) (c.getLsbD 4) (c.getLsbD 3) (c.getLsbD 2) (c.getLsbD 1)
      (c.getLsbD 0) d j = i d j)
    (hf : ∀ x y, alu (AluCtl.ofBits (c.extractLsb' 0 6)) x y = f x y) : Means c i f := by
  intro d j
  refine ⟨fun r => (decode_computeWord r c d j).trans (hi d j), fun s =>
    ⟨runTick (computeControls (YSource.ofBit (c.getLsbD 6)) (AluCtl.ofBits (c.extractLsb' 0 6)) d j s) s, ?_, ?_⟩⟩
  · rw [← hi, exec_compInstr, AluCtl.ofBits_extractLsb']
  · rw [← hf, ← aluOut_computeControls]
    exact computeEffect_runTick ..

/-- Settles O7, by the closed forms of the three constant patterns. -/
theorem constantComps : Obligations.ConstantComps := by
  and_intros
  all_goals exact means_of_alu (fun _ _ => rfl) fun x y => by simp only [BitVec.reduceExtractLsb', aluClosedForms x y]

/-- Settles O8, by the closed forms of the patterns that pass one operand. -/
theorem operandComps : Obligations.OperandComps := by
  and_intros
  all_goals exact means_of_alu (fun _ _ => rfl) fun x y => by simp only [BitVec.reduceExtractLsb', aluClosedForms x y]

/-- Settles O9, by the closed forms of the patterns that complement or negate one operand. -/
theorem complementAndNegationComps : Obligations.ComplementAndNegationComps := by
  and_intros
  all_goals exact means_of_alu (fun _ _ => rfl) fun x y => by simp only [BitVec.reduceExtractLsb', aluClosedForms x y]

/-- Settles O10, by the closed forms of the patterns that add or subtract 1. -/
theorem incrementAndDecrementComps : Obligations.IncrementAndDecrementComps := by
  and_intros
  all_goals exact means_of_alu (fun _ _ => rfl) fun x y => by simp only [BitVec.reduceExtractLsb', aluClosedForms x y]

/-- Settles O11, by the closed forms of the patterns of the sum and of both differences. -/
theorem sumAndDifferenceComps : Obligations.SumAndDifferenceComps := by
  and_intros
  all_goals exact means_of_alu (fun _ _ => rfl) fun x y => by simp only [BitVec.reduceExtractLsb', aluClosedForms x y]

/-- Settles O12, by the closed forms of the patterns of AND and OR. -/
theorem andAndOrComps : Obligations.AndAndOrComps := by
  and_intros
  all_goals exact means_of_alu (fun _ _ => rfl) fun x y => by simp only [BitVec.reduceExtractLsb', aluClosedForms x y]

/-- Settles O13, by the closed forms of the patterns no named comp on A uses. -/
theorem unnamedCompsOnA : Obligations.UnnamedCompsOnA := by
  and_intros
  all_goals exact means_of_alu (fun _ _ => rfl) fun x y => by simp only [BitVec.reduceExtractLsb', aluClosedForms x y]

/-- Settles O14, by the closed forms of the patterns no named comp on M uses. -/
theorem unnamedCompsOnM : Obligations.UnnamedCompsOnM := by
  and_intros
  all_goals exact means_of_alu (fun _ _ => rfl) fun x y => by simp only [BitVec.reduceExtractLsb', aluClosedForms x y]

end Sys2Proof.Machine
end

section
/-! SUPPORT. Proofs of the family 41_program_counter.md: what the program counter takes under each of its inputs. -/

namespace Sys2Proof.Machine

/-! ### The priority of the program counter's inputs

One equation per line of the rule (41_program_counter.md R140): a signal decides as soon as those before it are off,
whatever those after it say. -/

section
variable (old inp : Word) (inc load : Bool)

@[simp] theorem pcUpdate_fst (reset : Bool) : (pcUpdate old inp inc load reset).1 = old := rfl

@[simp] theorem pcUpdate_reset : (pcUpdate old inp inc load true).2 = 0#16 := rfl

@[simp] theorem pcUpdate_load : (pcUpdate old inp inc true false).2 = inp := rfl

@[simp] theorem pcUpdate_inc : (pcUpdate old inp true false false).2 = old + 1 := rfl

@[simp] theorem pcUpdate_hold : (pcUpdate old inp false false false).2 = old := rfl

end

/-- Settles O27: an equation per priority; the increment of a 16-bit word is addition modulo 2^16. -/
theorem counterPriority : Obligations.CounterPriority := by
  intro old inp inc load reset
  refine ⟨pcUpdate_fst .., ?reset, ?load, ?inc, ?hold⟩
  case reset =>
    rintro rfl
    exact pcUpdate_reset ..
  case load =>
    rintro rfl rfl
    exact pcUpdate_load ..
  case inc =>
    rintro rfl rfl rfl
    rw [pcUpdate_inc]
    exact BitVec.toNat_add old 1
  case hold =>
    rintro rfl rfl rfl
    exact pcUpdate_hold ..

end Sys2Proof.Machine
end

section
/-! SUPPORT. Proofs of the family 42_address_instruction.md: the tick of the address instruction. -/

namespace Sys2Proof.Machine

theorem jumpTaken_none (out : Word) : jumpTaken Jump.none out = false :=
  Bool.eq_false_iff.mpr fun h => ne_none_of_jumpTaken h rfl

/-- An address in a word's low bits is read back whole. -/
theorem low15_setWidth (v : Addr) : low15 (v.setWidth 16) = v :=
  BitVec.setWidth_setWidth_of_le v (by decide)

/-! ### The tick under the signals of `@v` -/

section
variable (v : Addr) (s : State)

/-- The operand-select and control bits are the value's own, and the second operand `A'` is the value just loaded
(42_address_instruction.md R150). -/
theorem aluOut_addressControls : aluOut (addressControls v) s =
    alu ⟨v.getLsbD 11, v.getLsbD 10, v.getLsbD 9, v.getLsbD 8, v.getLsbD 7, v.getLsbD 6⟩ s.regD
      (if v.getLsbD 12 then s.memIn else 0#1 ++ v) := by
  have hbits : AluCtl.ofBits (v.extractLsb' 6 6) =
      ⟨v.getLsbD 11, v.getLsbD 10, v.getLsbD 9, v.getLsbD 8, v.getLsbD 7, v.getLsbD 6⟩ := by
    simp [AluCtl.ofBits]
  have hword : v.setWidth 16 = 0#1 ++ v := BitVec.setWidth_eq_append (by decide : 15 ≤ 16)
  have hy : operandY (YSource.ofBit (v.getLsbD 12)) (v.setWidth 16) s =
      if v.getLsbD 12 then s.memIn else 0#1 ++ v := by
    rw [hword]
    cases v.getLsbD 12 <;> rfl
  exact congrArg₂ (fun c y => alu c s.regD y) hbits hy

/-- An address instruction never jumps. -/
theorem runTick_addressControls_pc :
    (runTick (addressControls v) s).pc = if resetNow s then 0#16 else s.pc + 1 := by
  rw [runTick_pc, addressControls_jump, jumpTaken_none]
  cases resetNow s
  · exact pcUpdate_inc ..
  · exact pcUpdate_reset ..

/-- The memory is not written, and is read at the value just loaded (42_address_instruction.md R151). -/
theorem runTick_addressControls_memIn : (runTick (addressControls v) s).memIn = s.ram.read v :=
  congrArg s.ram.read (low15_setWidth v)

end

/-- Settles O6: the tick under the signals of `@v` loads the value, and loads no D and writes no word. -/
theorem addressInstructionLoadsItsValue : Obligations.AddressInstructionLoadsItsValue := by
  intro v
  refine ⟨decode_addressWord v, fun s => ⟨_, exec_atValue v s, ?regA, rfl, rfl, rfl,
    runTick_addressControls_pc v s, aluOut_addressControls v s, runTick_addressControls_memIn v s, rfl⟩⟩
  case regA => exact BitVec.toNat_setWidth_of_le (by decide : 15 ≤ 16)

end Sys2Proof.Machine
end

section
/-! SUPPORT. Proofs of the family 43_compute_instruction.md: the dest and jump fields of a compute instruction, the CPU's
outputs, and the step as the spec's tick over raw instruction bits. -/

namespace Sys2Proof.Machine

open Sys2Proof.Claims

/-! ### The CPU's outputs, in the bits of the fetched word (43_compute_instruction.md R161) -/

section
variable (s : State)

theorem cpuOutputs_pc : (cpuOutputs s).pc = s.pc := rfl

theorem cpuOutputs_writeM : (cpuOutputs s).writeM = ((fetch s).getLsbD 15 && (fetch s).getLsbD 3) := rfl

theorem cpuOutputs_outM : (cpuOutputs s).outM =
    alu ⟨(fetch s).getLsbD 11, (fetch s).getLsbD 10, (fetch s).getLsbD 9, (fetch s).getLsbD 8, (fetch s).getLsbD 7,
      (fetch s).getLsbD 6⟩ s.regD (if (fetch s).getLsbD 12 then s.memIn else (cpuOutputs s).addressM) := rfl

theorem cpuOutputs_addressM : (cpuOutputs s).addressM =
    if (fetch s).getLsbD 15 = false then fetch s else newAOf (destOf (fetch s)) s := rfl

variable {s}

theorem cpuOutputs_addressM_of_address (h : (fetch s).getLsbD 15 = false) : (cpuOutputs s).addressM = fetch s := by
  rw [cpuOutputs_addressM, if_pos h]

theorem cpuOutputs_addressM_of_compute (h : (fetch s).getLsbD 15 = true) :
    (cpuOutputs s).addressM = newAOf (destOf (fetch s)) s := by
  rw [cpuOutputs_addressM, if_neg (ne_false_of_eq_true h)]

end

/-! ### The step and the spec's tick -/

/-- Control signals that agree with the raw bits of the fetched word, on the updated A, the ALU output, the two write
signals and the jump decision, give the tick that the spec writes over those bits. -/
theorem runTick_eq_computerTick {g : Controls} {s : State} (hA : newA g s = (cpuOutputs s).addressM)
    (hout : aluOut g s = (cpuOutputs s).outM)
    (hloadD : g.loadD = ((fetch s).getLsbD 15 && (fetch s).getLsbD 4)) (hwriteM : g.writeM = (cpuOutputs s).writeM)
    (hjump : ∀ out, jumpTaken g.jump out = ((fetch s).getLsbD 15 && jumpTaken (jumpOf (fetch s)) out)) :
    runTick g s = (computerTick (resetNow s) s).2.setResetIn s.resetIn.tail := by
  rw [runTick, hjump, hloadD, hwriteM, hA, hout]
  rfl

/-- An address instruction's ALU works under the bits of its own word (30_encoding.md R66). -/
theorem aluOut_addressControls_valueOf {s : State} (h : (fetch s).getLsbD 15 = false) :
    aluOut (addressControls (valueOf (fetch s))) s = (cpuOutputs s).outM := by
  have hbit : ∀ p < 15, (valueOf (fetch s)).getLsbD p = (fetch s).getLsbD p := fun p hp => by
    rw [valueOf, BitVec.getLsbD_setWidth, decide_eq_true hp, Bool.true_and]
  have hword : 0#1 ++ valueOf (fetch s) = fetch s :=
    (BitVec.setWidth_eq_append (by decide : 15 ≤ 16)).symm.trans (setWidth_valueOf h)
  rw [aluOut_addressControls, cpuOutputs_outM, cpuOutputs_addressM_of_address h, hword]
  simp only [hbit, Nat.reduceLT]

/-- Settles O29, by the class bit: the signals of each class agree with the raw bits. -/
theorem stepIsTheComputerTick : Obligations.StepIsTheComputerTick := by
  intro s
  rcases step_cases (step_eq s) with ⟨hclass, ht⟩ | ⟨hclass, ht⟩
  case inl =>
    rw [step_eq, ht, runTick_eq_computerTick (hout := aluOut_addressControls_valueOf hclass)]
    case hA => exact (setWidth_valueOf hclass).trans (cpuOutputs_addressM_of_address hclass).symm
    case hloadD => rw [hclass]; rfl
    case hwriteM => rw [cpuOutputs_writeM, hclass]; rfl
    case hjump =>
      intro out
      rw [hclass]
      exact jumpTaken_none out
  case inr =>
    have hA := cpuOutputs_addressM_of_compute hclass
    rw [step_eq, ht, runTick_eq_computerTick]
    case hA => exact hA.symm
    case hout => rw [aluOut_computeControls, cpuOutputs_outM, hA]
    case hloadD => rw [hclass]; rfl
    case hwriteM => rw [cpuOutputs_writeM, hclass]; rfl
    case hjump =>
      intro out
      rw [hclass]
      rfl

/-- Settles O31: the step is the spec's tick, whose address output is the A it stores. -/
theorem cpuOutputsOfATick : Obligations.CpuOutputsOfATick := by
  intro s t h
  obtain rfl := Host.Outcome.next.inj ((stepIsTheComputerTick s).symm.trans h)
  exact ⟨cpuOutputs_outM s, cpuOutputs_writeM s, rfl, cpuOutputs_pc s⟩

/-! ### The dest and jump fields -/

/-- Every compute instruction completes with the whole effect of its ALU output, and without destination M the list of
RAM's cells is the same too. -/
theorem exec_compInstr_effect (a zx nx zy ny f no : Bool) (d : Dest) (j : Jump) (s : State) : ∃ t,
    exec (compInstr a zx nx zy ny f no d j) s = .next t ∧
    t.latchL = alu ⟨zx, nx, zy, ny, f, no⟩ s.regD (if a then s.memIn else t.regA) ∧
    ComputeEffect d j t.latchL s t ∧ (d.dM = false → t.ram = s.ram) := by
  refine ⟨_, exec_compInstr a zx nx zy ny f no d j s, aluOut_computeControls .., computeEffect_runTick .., fun hM => ?_⟩
  rw [runTick_ram, computeControls_writeM, hM]
  rfl

/-- Destination M stores the ALU output at the updated A, where the memory is then read. -/
theorem stored_of_computeEffect {d : Dest} {j : Jump} {out : Word} {s t : State} (h : ComputeEffect d j out s t)
    (hM : d.dM = true) : Stored s.ram (low15 (newAOf d s)) out t.ram ∧ t.memIn = out :=
  ⟨fun b => (h.ram b).trans (if_congr (and_iff_right hM) rfl rfl), h.memIn.trans (if_pos hM)⟩

/-- What is left to show for a dest field is what follows from the effect of its instructions. -/
theorem destLaw_of_computeEffect {d : Dest} {P : State → State → Prop}
    (hP : ∀ j s t, ComputeEffect d j t.latchL s t → (d.dM = false → t.ram = s.ram) → P s t) : DestLaw d P := by
  intro a zx nx zy ny f no j s
  obtain ⟨t, hexec, hlatch, heffect, hram⟩ := exec_compInstr_effect a zx nx zy ny f no d j s
  exact ⟨t, hexec, hlatch, hP j s t heffect hram⟩

/-- Settles O15: the effect of a compute instruction, read at each of the eight dests. -/
theorem destFieldSelectsTheWrites : Obligations.DestFieldSelectsTheWrites := by
  refine ⟨?none, ?m, ?d, ?md, ?a, ?am, ?ad, ?amd⟩
  all_goals refine destLaw_of_computeEffect fun j s t h hram => ⟨h.regA, h.regD, ?_⟩
  case none | d => exact hram rfl
  case m | md | am | amd => exact stored_of_computeEffect h rfl
  case a | ad => exact ⟨hram rfl, h.memIn⟩

/-- What is left to show for a jump field is its condition. -/
theorem jumpLaw_of_iff {j : Jump} {cond : Word → Prop} (hcond : ∀ out, JumpCond j out ↔ cond out) : JumpLaw j cond := by
  intro a zx nx zy ny f no d s
  obtain ⟨t, hexec, hlatch, h, hram⟩ := exec_compInstr_effect a zx nx zy ny f no d j s
  refine ⟨t, hexec, hlatch, fun hreset => ?reset, fun hreset hc => ?taken, fun hreset hc => ?untaken, h.regA, h.regD,
    fun hM => ?stored, hram, cpuOutputs_pc t⟩
  case reset => rw [h.pc, if_pos hreset]
  case taken => rw [h.pc, if_neg (ne_true_of_eq_false hreset), if_pos ((hcond _).mpr hc), h.regA]
  case untaken => rw [h.pc, if_neg (ne_true_of_eq_false hreset), if_neg (mt (hcond _).mp hc)]
  case stored =>
    rw [h.regA]
    exact stored_of_computeEffect h hM

/-- Settles O16: the jump bits select a union of the three signs, which is the field's condition. -/
theorem jumpFieldSelectsTheCondition : Obligations.JumpFieldSelectsTheCondition := by
  refine ⟨?none, ?jgt, ?jeq, ?jge, ?jlt, ?jne, ?jle, ?jmp⟩
  all_goals
    refine jumpLaw_of_iff fun out => ?_
    simp only [JumpCond, Bool.false_eq_true, false_and, true_and, false_or, or_false, iff_true]
  all_goals omega

end Sys2Proof.Machine
end

section
/-! SUPPORT. Proofs of the family 44_computer.md: the step is always possible, the end of a run and the two ways programs
reach or avoid it, and the preload. -/

namespace Sys2Proof.Machine

/-! ### The tick is always possible -/

/-- Settles O28: the step is fetch, decode, execute. -/
theorem stepRunsTheDecodedInstruction : Obligations.StepRunsTheDecodedInstruction := by
  rintro s _ rfl
  rfl

/-- Settles O30: a step, and every instruction, is a tick, and a tick has a next state. -/
theorem everyStepCompletes : Obligations.EveryStepCompletes := by
  refine fun s => ⟨⟨_, step_eq s⟩, fun i => ?_⟩
  obtain ⟨g, hg⟩ := exec_eq_runTick i s
  exact ⟨_, hg⟩

/-! ### The fetched word that is stored from outside -/

/-- `withFetchWord` is one write to the instruction memory, at the fetch address. -/
theorem State.read_withFetchWord (s : State) (nbits w : Nat) (b : Addr) :
    (s.withFetchWord nbits w).rom.read b =
      if b = low15 s.pc then BitVec.ofNat 16 (w % 2 ^ nbits) else s.rom.read b :=
  Memory.read_write ..

theorem fetch_withFetchWord (s : State) (nbits w : Nat) :
    fetch (s.withFetchWord nbits w) = BitVec.ofNat 16 (w % 2 ^ nbits) :=
  (State.read_withFetchWord s nbits w (low15 s.pc)).trans (if_pos rfl)

/-- Settles O49: of the one write the fetch reads the word, which has at most 16 bits, and the other addresses do not. -/
theorem storedFetchWordIsFetched : Obligations.StoredFetchWordIsFetched := by
  intro s nbits w hbits
  refine ⟨?fetched, fun b hb => (State.read_withFetchWord s nbits w b).trans (if_neg hb)⟩
  case fetched =>
    have hlt : w % 2 ^ nbits < 2 ^ 16 :=
      (Nat.mod_lt w (Nat.two_pow_pos nbits)).trans_le (Nat.pow_le_pow_right Nat.two_pos hbits)
    rw [fetch_withFetchWord, BitVec.toNat_ofNat, Nat.mod_eq_of_lt hlt]

/-! ### The end of a run, in terms of the step -/

section
variable {s t : State}

/-- With no reset scheduled the step is the tick that defines the end of a run. -/
theorem step_of_resetIn_nil (hr : s.resetIn = []) : step s = .next ((computerTick false s).2.setResetIn []) :=
  (stepIsTheComputerTick s).trans (by rw [resetNow, hr]; rfl)

theorem resetIn_of_step (hr : s.resetIn = []) (h : step s = .next t) : t.resetIn = [] := by
  obtain rfl := Host.Outcome.next.inj ((step_of_resetIn_nil hr).symm.trans h)
  rfl

/-- A run has ended where the step leaves the contents alone (44_computer.md R212). -/
theorem ended_iff_sameContents_of_step (hr : s.resetIn = []) (h : step s = .next t) : s.Ended ↔ t.SameContents s := by
  obtain rfl := Host.Outcome.next.inj ((step_of_resetIn_nil hr).symm.trans h)
  exact ⟨(State.SameContents.setResetIn _ []).trans, (State.SameContents.setResetIn _ []).symm.trans⟩

theorem ended_of_step_self (hr : s.resetIn = []) (h : step s = .next s) : s.Ended :=
  (ended_iff_sameContents_of_step hr h).2 (.refl s)

theorem not_ended_of_pc_ne (hr : s.resetIn = []) (h : step s = .next t) (hpc : t.pc ≠ s.pc) : ¬ s.Ended :=
  fun hend => hpc ((ended_iff_sameContents_of_step hr h).1 hend).pc

theorem State.Ended.of_sameContents (hend : s.Ended) (h : s.SameContents t) : t.Ended :=
  (computerTick_sameContents h false).2.symm.trans (hend.trans h)

/-- In canonical form equal contents are equal data, up to the schedule of reset inputs. -/
theorem State.SameContents.eq (h : s.SameContents t) (hs : s.Inv) (ht : t.Inv) (hr : s.resetIn = t.resetIn) : s = t := by
  obtain ⟨hsram, hsrom⟩ := hs
  obtain ⟨htram, htrom⟩ := ht
  obtain ⟨hpc, hA, hD, hL, hMin, hram, hrom⟩ := h
  replace hram := canonicalMemoriesThatReadAlikeAreEqual _ _ hsram htram hram
  replace hrom := canonicalMemoriesThatReadAlikeAreEqual _ _ hsrom htrom hrom
  cases s
  cases t
  simp only [State.mk.injEq]
  exact ⟨hpc, hA, hD, hL, hMin, hram, hrom, hr⟩

theorem ended_iff_step_eq_self (hs : s.Inv) (hr : s.resetIn = []) : s.Ended ↔ step s = .next s := by
  refine ⟨fun hend => ?_, ended_of_step_self hr⟩
  obtain ⟨⟨t, ht⟩, -⟩ := everyStepCompletes s
  have hsame := (ended_iff_sameContents_of_step hr ht).1 hend
  rw [ht, hsame.eq (stepKeepsMemoriesCanonical s t hs ht) hs ((resetIn_of_step hr ht).trans hr.symm)]

theorem run_succ_of_step {M : Host.Core} {s t : M.State} (h : M.step s = .next t) (k : Nat) :
    M.run (k + 1) s = M.run k t := by
  rw [Host.Core.run, h]

/-- After the end of a run every tick finds the same contents, and so changes nothing again. -/
theorem exists_run_sameContents_of_ended (hend : s.Ended) (hr : s.resetIn = []) (k : Nat) :
    ∃ t, Sys2Proof.core.run k s = .next t ∧ t.SameContents s := by
  induction k generalizing s with
  | zero => exact ⟨s, rfl, .refl s⟩
  | succ k ih =>
    obtain ⟨⟨u, hu⟩, -⟩ := everyStepCompletes s
    have hsame := (ended_iff_sameContents_of_step hr hu).1 hend
    obtain ⟨t, hrun, ht⟩ := ih (hend.of_sameContents hsame.symm) (resetIn_of_step hr hu)
    exact ⟨t, (run_succ_of_step (M := Sys2Proof.core) hu k).trans hrun, ht.trans hsame⟩

end

/-- Settles O50: the end of a run is a matter of contents, which in canonical form are the data. -/
theorem endedIsTheFixedPointOfTheTick : Obligations.EndedIsTheFixedPointOfTheTick :=
  fun _ => ⟨ended_iff_step_eq_self, fun _ h => ⟨(·.of_sameContents h), (·.of_sameContents h.symm)⟩,
    exists_run_sameContents_of_ended⟩

/-! ### The two instructions of a loop that waits for ever (44_computer.md R208) -/

theorem low15_addressWord (p : Addr) : low15 (0#1 ++ p) = p := BitVec.setWidth_append_eq_right

section
variable {s : State}

/-- A step at `0;JMP` goes to A and latches 0. -/
theorem step_zeroJmp (h : fetch s = 0xEA87#16) (hr : s.resetIn = []) :
    step s = .next { s with pc := s.regA, latchL := 0#16, memIn := s.ram.read (low15 s.regA) } := by
  have hdecode : decode 0xEA87#16 = .zero Dest.none Jump.jmp := rfl
  have hexec : exec (.zero Dest.none Jump.jmp) s =
      .next (runTick (computeControls .regA (AluCtl.ofBits 0b101010#6) Dest.none Jump.jmp s) s) := rfl
  have hout : aluOut (computeControls .regA (AluCtl.ofBits 0b101010#6) Dest.none Jump.jmp s) s = 0#16 := rfl
  rw [step, h, hdecode, hexec, runTick, hout, resetNow, hr]
  rfl

/-- A step at `@v` goes to the next address with the value in A. -/
theorem step_atValue {v : Addr} (h : fetch s = 0#1 ++ v) (hr : s.resetIn = []) :
    step s = .next { s with pc := s.pc + 1, regA := 0#1 ++ v, latchL := aluOut (addressControls v) s,
                            memIn := s.ram.read v } := by
  have hA : newA (addressControls v) s = 0#1 ++ v := BitVec.setWidth_eq_append (by decide : 15 ≤ 16)
  rw [step, h, decode_addressWord, exec_atValue, runTick, addressControls_jump, jumpTaken_none, hA, low15_addressWord,
    resetNow, hr]
  rfl

end

/-- Settles O43: the jump fetches itself again, and its second tick writes what its first one wrote. -/
theorem selfJumpReachesAFixedPoint : Obligations.SelfJumpReachesAFixedPoint := by
  intro s hfetch hself hr
  have hagain : step { s with pc := s.regA, latchL := 0#16, memIn := s.ram.read (low15 s.regA) } = .next _ :=
    step_zeroJmp ((congrArg s.rom.read hself).trans hfetch) hr
  exact ⟨_, step_zeroJmp hfetch hr, rfl, rfl, rfl, rfl, rfl, hagain, ended_of_step_self hr hagain⟩

/-- The states of the loop `@p; 0;JMP` once `@p` has run: A is `p` and the memory input is the word there. -/
def idiomState (s : State) (p : Addr) (pc latch : Word) : State :=
  { s with pc := pc, regA := 0#1 ++ p, latchL := latch, memIn := s.ram.read p }

/-- The address after the last one is 0, as the counter's bit 15 is not used (the spec's decision D3). -/
theorem low15_addressWord_add_one (p : Addr) : low15 (0#1 ++ p + 1) = p + 1 := by
  have h := low15_addressWord p
  rw [low15] at h ⊢
  rw [BitVec.setWidth_add _ _ (by decide : 15 ≤ 16), h]
  rfl

section
variable {s : State} {p : Addr} (latch : Word)

theorem step_idiomState_atValue (hat : s.rom.read p = 0#1 ++ p) (hr : s.resetIn = []) : ∃ l,
    step (idiomState s p (0#1 ++ p) latch) = .next (idiomState s p (0#1 ++ p + 1) l) :=
  ⟨_, step_atValue ((congrArg s.rom.read (low15_addressWord p)).trans hat) hr⟩

theorem step_idiomState_zeroJmp (hjmp : s.rom.read (p + 1) = 0xEA87#16) (hr : s.resetIn = []) :
    step (idiomState s p (0#1 ++ p + 1) latch) = .next (idiomState s p (0#1 ++ p) 0#16) := by
  have hfetch : fetch (idiomState s p (0#1 ++ p + 1) latch) = 0xEA87#16 :=
    (congrArg s.rom.read (low15_addressWord_add_one p)).trans hjmp
  rw [step_zeroJmp hfetch hr]
  simp only [idiomState, low15_addressWord]

end

/-- Settles O44: the loop's two states differ in the program counter, so that neither is an end. -/
theorem twoWordIdiomAlternates : Obligations.TwoWordIdiomAlternates := by
  intro s p hpc hfetch hjmp hr
  have hat : s.rom.read p = 0#1 ++ p := by rwa [fetch, hpc, low15_addressWord] at hfetch
  have hne : (0#1 ++ p + 1 : Word) ≠ 0#1 ++ p := by simp
  have hs : step s = .next (idiomState s p (0#1 ++ p + 1) (aluOut (addressControls p) s)) := by
    rw [step_atValue hfetch hr, hpc]; rfl
  obtain ⟨l, hu⟩ := step_idiomState_atValue 0#16 hat hr
  have hv := step_idiomState_zeroJmp l hjmp hr
  exact ⟨_, _, _, hs, step_idiomState_zeroJmp _ hjmp hr, hu, hv, not_ended_of_pc_ne hr hu hne,
    not_ended_of_pc_ne hr hv hne.symm⟩

end Sys2Proof.Machine

/-! ### What the preload accepts -/

namespace Sys2Proof

theorem Line.wellFormed_iff (l : Line) : l.wellFormed = true ↔ l.length = 16 ∧ ∀ c ∈ l, c = '0' ∨ c = '1' := by
  simp [Line.wellFormed]

theorem Program.wellFormed_iff (lines : List Line) :
    Program.wellFormed lines = true ↔ lines.length ≤ 32768 ∧ ∀ l ∈ lines, l.wellFormed = true := by
  rw [Program.wellFormed, Bool.and_eq_true, List.all_eq_true]
  exact and_congr_left' decide_eq_true_iff

end Sys2Proof

namespace Sys2Proof.Machine

section
variable (p : PowerOn) {lines : List Line}

theorem preload_of_wellFormed (h : Program.wellFormed lines = true) :
    preload p lines = .next ((State.powerOn p).setRom (loadLines 0 p.rom lines)) := by
  rw [Program.wellFormed, Bool.and_eq_true, List.all_eq_true] at h
  obtain ⟨hfits, hlines⟩ := h
  have hnone : lines.findIdx? (fun l => !l.wellFormed) = none := by simpa using hlines
  rw [preload, if_pos hfits, hnone]

theorem exists_preload_refused (h : Program.wellFormed lines = false) : ∃ r, preload p lines = .refused r := by
  rw [preload]
  split
  next hfits =>
    split
    next i _ => exact ⟨_, rfl⟩
    next hnone =>
      have hlines : lines.all Line.wellFormed = true := by simpa using hnone
      rw [Program.wellFormed, hfits, hlines] at h
      cases h
  next => exact ⟨_, rfl⟩

theorem preload_refused_iff : (∃ r, preload p lines = .refused r) ↔ Program.wellFormed lines = false := by
  refine ⟨fun ⟨r, hr⟩ => ?_, exists_preload_refused p⟩
  rw [← Bool.not_eq_true]
  intro h
  rw [preload_of_wellFormed p h] at hr
  cases hr

end

/-- Settles O47: the preload refuses what is not well-formed. -/
theorem preloadRefusesIllFormedPrograms : Obligations.PreloadRefusesIllFormedPrograms := by
  intro p lines
  rw [preload_refused_iff, ← Bool.not_eq_true, Program.wellFormed_iff, not_and_or, Nat.not_le]
  simp only [Line.wellFormed_iff, not_forall, not_and_or, not_or, exists_prop]

/-! ### Where the lines go -/

/-- The number that a line writes in binary, its first character the most significant digit. -/
def binaryValue (l : Line) : Nat := l.foldl (fun n c => 2 * n + (if c = '1' then 1 else 0)) 0

theorem lineWord_eq (l : Line) : lineWord l = BitVec.ofNat 16 (binaryValue l) := rfl

theorem binaryValue_concat (l : Line) (c : Char) :
    binaryValue (l ++ [c]) = 2 * binaryValue l + (if c = '1' then 1 else 0) := List.foldl_append

theorem testBit_binaryValue (l : Line) {k : Nat} (hk : k < l.length) :
    (binaryValue l).testBit (l.length - 1 - k) = true ↔ l[k]? = some '1' := by
  induction l using List.reverseRecOn with
  | nil => cases hk
  | append_singleton l c ih =>
    rw [List.length_append, List.length_singleton] at hk ⊢
    rw [binaryValue_concat, Nat.add_sub_cancel]
    rcases Nat.lt_succ_iff_lt_or_eq.1 hk with hk | rfl
    · have hhalf : (2 * binaryValue l + if c = '1' then 1 else 0) / 2 = binaryValue l := by split <;> omega
      rw [List.getElem?_append_left hk, ← ih hk, show l.length - k = l.length - 1 - k + 1 by omega, Nat.testBit_succ,
        hhalf]
    · rw [List.getElem?_concat_length, Nat.sub_self, Nat.testBit_zero]
      by_cases hc : c = '1' <;> simp [hc]

theorem getLsbD_lineWord {l : Line} (hl : l.length = 16) {k : Nat} (hk : k < 16) :
    (lineWord l).getLsbD (15 - k) = true ↔ l[k]? = some '1' := by
  rw [lineWord_eq, BitVec.getLsbD_ofNat, decide_eq_true (by omega : 15 - k < 16), Bool.true_and,
    ← testBit_binaryValue l (hl ▸ hk), hl]

theorem loadLines_cons (i : Nat) (m : Memory) (l : Line) (ls : List Line) :
    loadLines i m (l :: ls) = loadLines (i + 1) (m.write (BitVec.ofNat 15 i) (lineWord l)) ls := rfl

/-- Lines that fit from `i` on leave the other addresses alone. -/
theorem read_loadLines_of_outside {i : Nat} {m : Memory} {ls : List Line} {b : Addr} (hfit : i + ls.length ≤ 32768)
    (hb : b.toNat < i ∨ i + ls.length ≤ b.toNat) : (loadLines i m ls).read b = m.read b := by
  induction ls generalizing i m with
  | nil => rfl
  | cons l ls ih =>
    rw [List.length_cons] at hfit hb
    have hne : b ≠ BitVec.ofNat 15 i := by
      rintro rfl
      rw [BitVec.toNat_ofNat] at hb
      omega
    rw [loadLines_cons, ih (by omega) (by omega), Memory.read_write, if_neg hne]

/-- Lines that fit from `i` on are found at sequential addresses (44_computer.md R201). -/
theorem read_loadLines_of_getElem? {i j : Nat} {m : Memory} {ls : List Line} {l : Line}
    (hfit : i + ls.length ≤ 32768) (hl : ls[j]? = some l) :
    (loadLines i m ls).read (BitVec.ofNat 15 (i + j)) = lineWord l := by
  induction ls generalizing i j m with
  | nil => simp at hl
  | cons l₀ ls ih =>
    rw [List.length_cons] at hfit
    rw [loadLines_cons]
    cases j with
    | zero =>
      obtain rfl : l₀ = l := by simpa using hl
      have hi : (BitVec.ofNat 15 i).toNat < i + 1 := by
        rw [BitVec.toNat_ofNat]; omega
      exact (read_loadLines_of_outside (by omega) (.inl hi)).trans ((Memory.read_write ..).trans (if_pos rfl))
    | succ j =>
      rw [← Nat.add_assoc, Nat.add_right_comm]
      exact ih (by omega) (by simpa using hl)

/-- Settles O46: each line is written once, at its own address, and its characters are the word's bits. -/
theorem preloadPlacesTheLines : Obligations.PreloadPlacesTheLines := by
  intro p lines hwf
  obtain ⟨hlen, hlines⟩ := (Program.wellFormed_iff lines).1 hwf
  have hfit : 0 + lines.length ≤ 32768 := by omega
  refine ⟨_, preload_of_wellFormed p hwf, fun i l hl k hk => ?placed, fun b hb => ?above, rfl⟩
  case placed =>
    have hl16 := ((Line.wellFormed_iff l).1 (hlines l (List.mem_of_getElem? hl))).1
    have hread := read_loadLines_of_getElem? (m := p.rom) hfit hl
    rw [Nat.zero_add] at hread
    rw [State.setRom_rom, hread]
    exact getLsbD_lineWord hl16 hk
  case above => exact read_loadLines_of_outside hfit (.inr (by omega))

end Sys2Proof.Machine
end

section
/-! SUPPORT. Proofs of the family 70_reset_and_hazards.md: the reset input of a tick, what an instruction sees of the
tick before it, and the first tick of a preloaded program. -/

namespace Sys2Proof.Machine

open Sys2Proof.Claims

/-! ### The reset input (70_reset_and_hazards.md R240) -/

/-- Of a tick only the program counter reads the reset input. -/
theorem runTick_setResetIn_true (g : Controls) (s : State) (later : List Bool) :
    runTick g (s.setResetIn (true :: later)) = { runTick g (s.setResetIn (false :: later)) with pc := 0#16 } := rfl

/-- A step under another reset input runs the tick under the same signals: neither fetch nor decoder reads it. -/
theorem step_setResetIn_of_step {s t : State} {r : List Bool} (r' : List Bool) (h : step (s.setResetIn r) = .next t) :
    ∃ g, t = runTick g (s.setResetIn r) ∧ step (s.setResetIn r') = .next (runTick g (s.setResetIn r')) :=
  ⟨_, (Host.Outcome.next.inj ((step_eq _).symm.trans h)).symm, step_eq (s.setResetIn r')⟩

/-- Settles O37: both ticks run under the same signals. -/
theorem resetInputOnlyForcesThePc : Obligations.ResetInputOnlyForcesThePc := by
  intro s later
  obtain ⟨⟨t, ht⟩, -⟩ := everyStepCompletes (s.setResetIn (false :: later))
  obtain ⟨g, rfl, hreset⟩ := step_setResetIn_of_step (true :: later) ht
  exact ⟨_, ht, by rw [hreset, runTick_setResetIn_true]⟩

/-! ### The whole effect of the comps that the hazards name, read off the comps' statements -/

section
variable (d : Dest) (j : Jump) (s : State)

theorem exec_compD_effect : ∃ t, exec (.compD d j) s = .next t ∧ ComputeEffect d j s.regD s t := by
  obtain ⟨hD, -, -⟩ := operandComps
  exact (hD d j).2 s

theorem exec_compM_effect : ∃ t, exec (.compM d j) s = .next t ∧ ComputeEffect d j s.memIn s t := by
  obtain ⟨-, -, hM⟩ := operandComps
  exact (hM d j).2 s

theorem exec_dPlusOne_effect : ∃ t, exec (.dPlusOne d j) s = .next t ∧ ComputeEffect d j (s.regD + 1) s t := by
  obtain ⟨hD, -⟩ := incrementAndDecrementComps
  exact (hD d j).2 s

theorem exec_mPlusOne_effect : ∃ t, exec (.mPlusOne d j) s = .next t ∧ ComputeEffect d j (s.memIn + 1) s t := by
  obtain ⟨-, -, hM, -⟩ := incrementAndDecrementComps
  exact (hM d j).2 s

end

/-! ### Hazards -/

/-- Destination A loads the previous ALU output (43_compute_instruction.md R162). -/
theorem newAOf_of_dA {d : Dest} (hA : d.dA = true) (s : State) : newAOf d s = s.latchL := if_pos hA

/-- A destination-A instruction loads the latch, also as its own second operand, and latches its own ALU output. -/
theorem exec_compInstr_dA (a zx nx zy ny f no : Bool) {d : Dest} (hA : d.dA = true) (j : Jump) (s : State) : ∃ t,
    exec (compInstr a zx nx zy ny f no d j) s = .next t ∧ t.regA = s.latchL ∧
    t.latchL = alu ⟨zx, nx, zy, ny, f, no⟩ s.regD (if a then s.memIn else s.latchL) := by
  obtain ⟨t, hexec, hlatch, heffect, -⟩ := exec_compInstr_effect a zx nx zy ny f no d j s
  have hregA : t.regA = s.latchL := heffect.regA.trans (newAOf_of_dA hA s)
  exact ⟨t, hexec, hregA, hregA ▸ hlatch⟩

/-- Settles O39: the latch holds the ALU output of the tick before, whatever that tick ran. -/
theorem destAHasOneTickLatency : Obligations.DestAHasOneTickLatency := by
  refine ⟨?afterAny, ?afterCompute, ?examples⟩
  case afterAny =>
    intro i a zx nx zy ny f no d k s hA
    obtain ⟨t, ht⟩ := (everyStepCompletes s).2 i
    obtain ⟨u, hu, hregA, hlatch⟩ := exec_compInstr_dA a zx nx zy ny f no hA k t
    exact ⟨t, u, ht, hu, hregA, hlatch⟩
  case afterCompute =>
    intro a zx nx zy ny f no b zx' nx' zy' ny' f' no' c d j k s hA
    obtain ⟨t, ht, hlatch, heffect, -⟩ := exec_compInstr_effect a zx nx zy ny f no c j s
    obtain ⟨u, hu, hregA, -⟩ := exec_compInstr_dA b zx' nx' zy' ny' f' no' hA k t
    exact ⟨t, u, ht, hu, by rw [hregA, hlatch, heffect.regA]⟩
  case examples =>
    intro s j k
    obtain ⟨t, ht, hDM⟩ := exec_compM_effect Dest.d j s
    have hregD : t.regD = s.memIn := hDM.regD
    obtain ⟨u, hu, hAD⟩ := exec_compD_effect Dest.a k t
    obtain ⟨w, hw, hAD1⟩ := exec_dPlusOne_effect Dest.a k t
    exact ⟨t, ht, ⟨u, hu, hAD.regA.trans hDM.latchL, hAD.latchL.trans hregD⟩,
      ⟨w, hw, hAD1.regA.trans hDM.latchL, by rw [hAD1.latchL, hregD]⟩⟩

/-- Settles O40: the memory input is the word at the old A, and the store goes to the latch loaded into A. -/
theorem memoryOperandIsAtTheOldA : Obligations.MemoryOperandIsAtTheOldA := by
  intro s j hcoherent
  obtain ⟨t, ht, heffect⟩ := exec_mPlusOne_effect Dest.am j s
  obtain ⟨hstored, -⟩ := stored_of_computeEffect heffect rfl
  rw [newAOf_of_dA rfl, hcoherent] at hstored
  exact ⟨t, ht, heffect.regA, (hstored _).trans (if_pos rfl), fun hne => (hstored _).trans (if_neg hne)⟩

theorem operandY_ofBit (a : Bool) (w : Word) (s : State) :
    operandY (YSource.ofBit a) w s = if a then s.memIn else w := by
  cases a <;> rfl

/-- Settles O41: `@v` latches the ALU's output under the value's own bits, and `A=D` loads it. -/
theorem addressInstructionOverwritesTheLatch : Obligations.AddressInstructionOverwritesTheLatch := by
  intro v s j
  obtain ⟨u, hu, hAD⟩ := exec_compD_effect Dest.a j (runTick (addressControls v) s)
  have hregA : u.regA = alu (AluCtl.ofBits (v.extractLsb' 6 6)) s.regD
      (if v.getLsbD 12 then s.memIn else v.setWidth 16) :=
    hAD.regA.trans (congrArg (alu _ _) (operandY_ofBit ..))
  refine ⟨_, u, exec_atValue v s, hu, hregA, ?_⟩
  rintro rfl hD
  have hbit : (5#15 : Addr).getLsbD 12 = false := by decide
  rw [hregA, hD, hbit, if_neg Bool.false_ne_true]
  decide

/-- Settles O42: after `@v` the memory input is the word at `v`; after dest MD it and D are the latch. -/
theorem writesAreSeenByTheNextTick : Obligations.WritesAreSeenByTheNextTick := by
  refine ⟨fun v s j => ?address, fun a zx nx zy ny f no s j k => ?write⟩
  case address =>
    obtain ⟨u, hu, hDM⟩ := exec_compM_effect Dest.d j (runTick (addressControls v) s)
    exact ⟨_, u, exec_atValue v s, hu, hDM.regD.trans (runTick_addressControls_memIn v s)⟩
  case write =>
    obtain ⟨t, ht, -, heffect, -⟩ := exec_compInstr_effect a zx nx zy ny f no Dest.md j s
    obtain ⟨u, hu, hM⟩ := exec_compM_effect Dest.none k t
    obtain ⟨w, hw, hD⟩ := exec_compD_effect Dest.none k t
    exact ⟨t, u, w, ht, hu, hM.latchL.trans heffect.memIn, hw, hD.latchL.trans heffect.regD⟩

/-! ### The first tick of a preloaded program (70_reset_and_hazards.md R241) -/

/-- What a completed preload was: of a well-formed program, with its lines from address 0 on. -/
theorem wellFormed_of_preload {p : PowerOn} {lines : List Line} {s : State} (h : preload p lines = .next s) :
    Program.wellFormed lines = true ∧ s.rom = loadLines 0 p.rom lines := by
  have hwf : Program.wellFormed lines = true := by
    rw [← Bool.not_eq_false]
    intro hill
    obtain ⟨r, hr⟩ := exists_preload_refused p hill
    rw [hr] at h
    cases h
  obtain rfl := Host.Outcome.next.inj ((preload_of_wellFormed p hwf).symm.trans h)
  exact ⟨hwf, State.setRom_rom ..⟩

/-- The first line of a preloaded program is the word at 0. -/
theorem read_zero_of_preload_cons {p : PowerOn} {l : Line} {ls : List Line} {s : State}
    (h : preload p (l :: ls) = .next s) : s.rom.read 0#15 = lineWord l ∧ l.length = 16 := by
  obtain ⟨hwf, hrom⟩ := wellFormed_of_preload h
  obtain ⟨hlen, hlines⟩ := (Program.wellFormed_iff _).1 hwf
  refine ⟨?_, ((Line.wellFormed_iff l).1 (hlines l List.mem_cons_self)).1⟩
  rw [hrom]
  exact read_loadLines_of_getElem? (j := 0) (by omega) rfl

/-- A step under reset 1 goes to address 0 of the same ROM and uses up its input. -/
theorem step_setResetIn_true (s : State) (later : List Bool) : ∃ t,
    step (s.setResetIn (true :: later)) = .next t ∧ t.pc = 0#16 ∧ t.rom = s.rom ∧ t.resetIn = later ∧
    fetch t = s.rom.read 0#15 :=
  ⟨_, step_eq (s.setResetIn (true :: later)), rfl, rfl, rfl, rfl⟩

/-- Settles O48: the first tick under reset leads to the word at 0, which is the first line's if there is one. -/
theorem resetOnTheFirstTickStartsTheProgram : Obligations.ResetOnTheFirstTickStartsTheProgram := by
  intro p lines s hpreload
  obtain ⟨t, hstep, hpc, hrom, hreset, hfetch⟩ := step_setResetIn_true s []
  refine ⟨t, hstep, hpc, hrom, hreset, ?cons, ?nil⟩
  case cons =>
    rintro l ls rfl
    obtain ⟨hread, hlen⟩ := read_zero_of_preload_cons hpreload
    rw [hfetch, hread]
    exact ⟨rfl, fun k hk => getLsbD_lineWord hlen hk⟩
  case nil =>
    rintro rfl
    rw [hfetch, (wellFormed_of_preload hpreload).2]
    rfl

end Sys2Proof.Machine
end
